-- ==== Sys2Proof/Word.lean ====
section
/-! DEFINITION. The words of the block: bytes, nibbles, the millisecond time word, the byte arrays
(CFG16 block, 50-byte frame, 25-byte postfix), the five-field DeviceState, the reader's four state
names and the answers of RxNext (`00_scope.md` R11, `10_state.md` R14, R17, R24). -/

namespace Sys2Proof

/-- A byte: 8 bits, unsigned, bit 0 the least significant (R11; log entry 16). -/
abbrev Byte := BitVec 8

/-- A nibble: 4 bits, unsigned (R11). -/
abbrev Nibble := BitVec 4

/-- NOW and T_LAST: an unsigned 32-bit count of milliseconds (R10 TIME_W, R21). -/
abbrev Time := BitVec 32

/-- A configuration block: 16 bytes, any values (R14). -/
abbrev Block := Vector Byte 16

/-- A frame, and the reader's buffer: 50 bytes by frame offset (R35). -/
abbrev Frame := Vector Byte 50

/-- What RxNext() answers: `some b` (the byte is removed from the source) or `none`, no byte now (R11). -/
abbrev Answer := Option Byte

/-- A DeviceState: five fields, the three numeric ones 8-bit unsigned so that out-of-range values can be
represented and rejected (R17). Equality is field by field (R145). -/
structure DeviceState where
  mode  : Byte
  temp  : Byte
  fan   : Byte
  swing : Bool
  light : Bool
deriving DecidableEq, Repr

/-- RX.STATE: the four names of the frame reader's state machine (R24). -/
inductive RxState where
  | waitSync1
  | waitSync2
  | readLength
  | readBody
deriving DecidableEq, Repr

end Sys2Proof
end

