-- ==== Sys2Proof/Config.lean ====
section
/-! DEFINITION. What is fixed for the machine: the constants of `00_scope.md` R8 and R10, and the one
parameter the block reads whose value the spec leaves open, POSTFIX (R9, R26, D20). -/

namespace Sys2Proof

/-- POSTFIX: the 25 device-specific bytes at frame offsets 24 to 48 (R9). OPEN in the spec: no value is
assumed, so the constant has no body that a proof could use (log entry 7). -/
opaque Config.postfixBytes : Vector Byte 25

/-- SYNC: frame offsets 0 and 1 (R8). -/
abbrev Config.sync : Byte := 0x7E#8

/-- LEN_VAL: frame offset 2, the remaining-byte count 47 (R8). -/
abbrev Config.lenVal : Byte := 0x2F#8

/-- The first of the four fixed bytes 01 00 00 00 at frame offsets 3 to 6 (R8). -/
abbrev Config.fixed3 : Byte := 0x01#8

/-- CMD_SET: offset 7 of a set frame (R8). -/
abbrev Config.cmdSet : Byte := 0xAF#8

/-- CMD_QUERY: offset 7 of a query frame (R8). -/
abbrev Config.cmdQuery : Byte := 0x00#8

/-- MODE_MAX (R8). -/
abbrev Config.modeMax : Byte := 5#8

/-- TEMP_MIN (R8). -/
abbrev Config.tempMin : Byte := 16#8

/-- TEMP_MAX (R8). -/
abbrev Config.tempMax : Byte := 30#8

/-- FAN_MAX (R8). -/
abbrev Config.fanMax : Byte := 5#8

/-- POLL_INTERVAL_MS (R10, the spec's decision D7). -/
abbrev Config.pollIntervalMs : Time := 1000#32

end Sys2Proof
end

