-- ==== Sys2Proof/Machine/Operands.lean ====
section
/-! DEFINITION. Every operand form of the block: nibble and bit access within a byte (R11, R41), the
value operand of a command (R62, R170), and the pure field functions of the Configuration Bit-Packer and
its neighbours, each after its own rule: IS_VALID (R86), FANQ (R87), DEC.* (R88 to R92), ENC.* (R95 to
R100), XHM (R150) and the six field mutations of a candidate (R156 to R162). No state is read or written
here. -/

namespace Sys2Proof.Machine

/-! ### Nibbles and bits (R11) -/

/-- The high nibble `b[7:4]`. -/
def hiNibble (b : Byte) : Nibble := b.extractLsb' 4 4

/-- The low nibble `b[3:0]`. -/
def loNibble (b : Byte) : Nibble := b.extractLsb' 0 4

/-- The byte `{h, l}` = `(h << 4) | l`. -/
def joinNibbles (h l : Nibble) : Byte := h ++ l

/-- The integer 0 or 1 of a boolean, as a byte (R11: "Booleans are the integers 0 and 1"). -/
def boolByte (b : Bool) : Byte := if b then 1#8 else 0#8

/-! ### Validity and the fan quantizer -/

/-- IS_VALID: the three bounds together; swing and light play no part (R86). -/
def isValid (d : DeviceState) : Bool :=
  decide (d.mode ≤ Config.modeMax) && decide (Config.tempMin ≤ d.temp)
    && decide (d.temp ≤ Config.tempMax) && decide (d.fan ≤ Config.fanMax)

/-- FANQ, the quantized fan nibble (R87; fan values above 5 follow the pseudocode's last line, log entry 15). -/
def fanQuant (f : Byte) : Nibble :=
  if f < 3#8 then f.setWidth 4 else if f = 3#8 then 2#4 else 3#4

/-! ### CFG.DEC, field by field (R88 to R94) -/

/-- DEC.mode: with `m = C[0][7:4]`, 0 if `m ≤ 7`, else `m - 7` (R88). -/
def decMode (blk : Block) : Byte :=
  if hiNibble blk[0] ≤ 7#4 then 0#8 else (hiNibble blk[0]).setWidth 8 - 7#8

/-- DEC.temp: `C[1][7:4] + 16` (R89). -/
def decTemp (blk : Block) : Byte := (hiNibble blk[1]).setWidth 8 + 16#8

/-- DEC.fan: the raw nibble `C[14][3:0]`; the quantized copy is not read (R90, R104). -/
def decFan (blk : Block) : Byte := (loNibble blk[14]).setWidth 8

/-- DEC.swing: 1 if `C[4][7:4] > 0` (R91). -/
def decSwing (blk : Block) : Bool := decide (0#4 < hiNibble blk[4])

/-- DEC.light: bit 1 of `C[2]` (R92; bit numbering, log entry 16). -/
def decLight (blk : Block) : Bool := blk[2].getLsbD 1

/-- CFG.DEC: total, pure, not validated (R93, R94). -/
def decodeCfg (blk : Block) : DeviceState where
  mode  := decMode blk
  temp  := decTemp blk
  fan   := decFan blk
  swing := decSwing blk
  light := decLight blk

/-! ### CFG.ENC, target by target (R95 to R101) -/

/-- ENC.byte0, high nibble: `mode + 7` if `mode > 0`, else 0 (R95). -/
def encModeCode (mode : Byte) : Nibble := if 0#8 < mode then (mode + 7#8).setWidth 4 else 0#4

/-- ENC.byte0: both nibbles assigned (R95, R96). -/
def encByte0 (d : DeviceState) : Byte := joinNibbles (encModeCode d.mode) (fanQuant d.fan)

/-- ENC.byte1: high nibble `temp - 16`, low nibble preserved (R97). -/
def encByte1 (d : DeviceState) (old : Byte) : Byte :=
  joinNibbles ((d.temp - 16#8).setWidth 4) (loNibble old)

/-- ENC.byte2: bit 1 becomes light, all other bits preserved (R98, R105). -/
def encByte2 (d : DeviceState) (old : Byte) : Byte := (old &&& 0xFD#8) ||| (boolByte d.light <<< 1)

/-- ENC.byte4: `swing << 4`, entire byte overwritten (R99, R105). -/
def encByte4 (d : DeviceState) : Byte := boolByte d.swing <<< 4

/-- ENC.byte14: the raw fan, whole byte (R100, the spec's decision D18). -/
def encByte14 (d : DeviceState) : Byte := d.fan

/-- CFG.ENC on a block: five bytes written, the rest untouched (R101, R102). Meant for a valid `d` only;
`encodeInto` of Ops.lean is the check (R103). -/
def encodeCfg (d : DeviceState) (blk : Block) : Block :=
  ((((blk.set 0 (encByte0 d)).set 1 (encByte1 d blk[1])).set 2 (encByte2 d blk[2])).set 4 (encByte4 d)).set
    14 (encByte14 d)

/-! ### The X-HM-Mode value -/

/-- XHM(mode): 5 gives 1, 2 gives 2, every other mode 0 (R150, the spec's decision D17). -/
def xhmOf (mode : Byte) : Byte := if mode = 5#8 then 1#8 else if mode = 2#8 then 2#8 else 0#8

/-! ### The value operand of a command -/

/-- The write mapping of the alias X-HM-Mode: 1 gives mode 5, 2 gives mode 2, any other value mode 0 (R158). -/
def xhmToMode (val : Byte) : Byte := if val = 1#8 then 5#8 else if val = 2#8 then 2#8 else 0#8

/-- The value of a boolean control: non-zero is 1 (R161, R162, the spec's decision D16). -/
def valToBool (val : Byte) : Bool := decide (val ≠ 0#8)

/-- A host integer as the 8-bit `val`: one that does not fit is presented as 255 (R62, R170, D6). -/
def presentValue (n : Int) : Byte := if 0 ≤ n ∧ n ≤ 255 then BitVec.ofInt 8 n else 255#8

/-- The command word `(ctl << 8) | val` (R62, R71). -/
def cmdWord (ctl : BitVec 3) (val : Byte) : BitVec 11 := ctl ++ val

end Sys2Proof.Machine
end

