-- ==== Sys2Proof/Syntax.lean ====
section
/-! DEFINITION. The operations of the block, one constructor per row of spec/opcode_table.json, in the
table's order (`30_encoding.md` R52). An operation's operands are the ones its rule lists; results are
not part of the syntax. -/

namespace Sys2Proof

/-- The 28 operations of R52. A docstring names the row's mnemonic and its rule. -/
inductive Instr where
  /-- CHECKSUM(F), R76. -/
  | checksum (f : Frame)
  /-- FRAME.QUERY, R79. -/
  | frameQuery
  /-- FRAME.SET, R80. -/
  | frameSet
  /-- FRAME.EXTRACT(B), R82. -/
  | frameExtract (f : Frame)
  /-- IS_VALID(s), R86. -/
  | isValid (d : DeviceState)
  /-- FANQ(f), R87. -/
  | fanq (f : Byte)
  /-- CFG.DEC(C), R94. -/
  | cfgDec (c : Block)
  /-- CFG.ENC(s), R101. -/
  | cfgEnc (d : DeviceState)
  /-- RX.READ, R112. -/
  | rxRead
  /-- RX.SYNC1.HIT (its byte is 0x7E), R113. -/
  | rxSync1Hit
  /-- RX.SYNC1.SKIP of a byte other than 0x7E, R113. -/
  | rxSync1Skip (b : Byte)
  /-- RX.SYNC2.HIT (its byte is 0x7E), R114. -/
  | rxSync2Hit
  /-- RX.SYNC2.MISS of a byte other than 0x7E, R114. -/
  | rxSync2Miss (b : Byte)
  /-- RX.LEN, R115. -/
  | rxLen (b : Byte)
  /-- RX.BODY, R116 and R117. -/
  | rxBody (b : Byte)
  /-- RX.EMPTY: RxNext() answered none, R118. -/
  | rxEmpty
  /-- SCHED.TICK(NOW), R130. -/
  | schedTick (now : Time)
  /-- POLL.FIRE(NOW), R133. -/
  | pollFire (now : Time)
  /-- SYNC.UPDATE(s), R146. -/
  | syncUpdate (d : DeviceState)
  /-- XHM(mode), R150. -/
  | xhm (mode : Byte)
  /-- CMD.MODE, R157. -/
  | cmdMode (val : Byte)
  /-- CMD.XHM, R158. -/
  | cmdXhm (val : Byte)
  /-- CMD.TEMP, R159. -/
  | cmdTemp (val : Byte)
  /-- CMD.FAN, R160. -/
  | cmdFan (val : Byte)
  /-- CMD.SWING, R161. -/
  | cmdSwing (val : Byte)
  /-- CMD.LIGHT, R162. -/
  | cmdLight (val : Byte)
  /-- CMD.RSVD, selector 6 (`s` false) or 7 (`s` true), R166. -/
  | cmdRsvd (s : Bool) (val : Byte)
  /-- RESET, R192. -/
  | reset
deriving DecidableEq, Repr

/-- What is presented to the block's decoder: the formats of R52's column "selected by". CMDW, TICK and
RST come from outside; RXBYTE is one answer of RxNext() seen in a reader state; FRAME50 is the frame
format whose offsets 0 to 7 name FRAME.QUERY or FRAME.SET (log entry 11). The INTERNAL rows have no format. -/
inductive Encoded where
  /-- CMDW: the 11-bit command word (R62). -/
  | cmdw (w : BitVec 11)
  /-- TICK: the strobe with its 32-bit NOW input (R29, R73). -/
  | tick (now : Time)
  /-- RST: the reset input, no bits (R73). -/
  | rst
  /-- RXBYTE: an answer of RxNext() and the reader state it meets (R63). -/
  | rxbyte (state : RxState) (answer : Answer)
  /-- FRAME50: the bytes of a frame, offset 0 first (R53). -/
  | frame50 (bytes : List Byte)
deriving DecidableEq, Repr

/-- Why the decoder rejects what it is given. Only FRAME50 bytes can be rejected: every CMDW word, TICK
word, reset strobe and reader answer has an operation (R62, R63, R69). -/
inductive DecodeError where
  /-- The bytes given as a frame are not 50 (R53). -/
  | frameNotFiftyBytes
  /-- Offsets 0 to 6 are not 7E 7E 2F 01 00 00 00 (R53, the table's match and mask). -/
  | frameFixedPartWrong
  /-- Offset 7 is neither AF nor 00: "The block never sends any other value at offset 7" (R54). -/
  | frameCommandByteUnknown
deriving DecidableEq, Repr

end Sys2Proof
end

