-- ==== Sys2Proof/WellFormed.lean ====
section
/-! DEFINITION. Which operations are well formed: the operand bounds the rules state beyond the operands'
widths. -/

namespace Sys2Proof

/-- The operand checks. FANQ takes a fan value 0 to 5 (R87); CFG.ENC takes a valid DeviceState (R103);
RX.SYNC1.SKIP and RX.SYNC2.MISS take a byte other than 0x7E (R63, R113, R114). Every other operand is
any value of its width. -/
def wellFormed : Instr → Bool
  | .checksum _ => true
  | .frameQuery => true
  | .frameSet => true
  | .frameExtract _ => true
  | .isValid _ => true
  | .fanq f => decide (f ≤ Config.fanMax)
  | .cfgDec _ => true
  | .cfgEnc d => Machine.isValid d
  | .rxRead => true
  | .rxSync1Hit => true
  | .rxSync1Skip b => decide (b ≠ Config.sync)
  | .rxSync2Hit => true
  | .rxSync2Miss b => decide (b ≠ Config.sync)
  | .rxLen _ => true
  | .rxBody _ => true
  | .rxEmpty => true
  | .schedTick _ => true
  | .pollFire _ => true
  | .syncUpdate _ => true
  | .xhm _ => true
  | .cmdMode _ => true
  | .cmdXhm _ => true
  | .cmdTemp _ => true
  | .cmdFan _ => true
  | .cmdSwing _ => true
  | .cmdLight _ => true
  | .cmdRsvd _ _ => true
  | .reset => true

end Sys2Proof
end

