-- ==== Sys2Proof/Decode.lean ====
section
/-! DEFINITION. The decoder, total and rejecting by name, and after it the encoder, both written from
`30_encoding.md` and spec/opcode_table.json; then the reading of a table word. -/

namespace Sys2Proof

/-! ### Decode -/

/-- CMDW: `ctl` in bits 10 to 8 selects the operation, `val` is bits 7 to 0 (R62). -/
def decodeCmdw (w : BitVec 11) : Instr :=
  let val : Byte := w.extractLsb' 0 8
  match w.extractLsb' 8 3 with
  | 0#3 => .cmdMode val
  | 1#3 => .cmdXhm val
  | 2#3 => .cmdTemp val
  | 3#3 => .cmdFan val
  | 4#3 => .cmdSwing val
  | 5#3 => .cmdLight val
  | _   => .cmdRsvd (w.getLsbD 8) val

/-- RXBYTE: what one received byte is in each reader state (R63). -/
def decodeRxByte (st : RxState) (b : Byte) : Instr :=
  match st with
  | .waitSync1  => if b = Config.sync then .rxSync1Hit else .rxSync1Skip b
  | .waitSync2  => if b = Config.sync then .rxSync2Hit else .rxSync2Miss b
  | .readLength => .rxLen b
  | .readBody   => .rxBody b

/-- Offsets 0 to 6 of every frame the block sends: 7E 7E 2F 01 00 00 00 (R53, R77). -/
def frameHead : List Byte := [Config.sync, Config.sync, Config.lenVal, Config.fixed3, 0#8, 0#8, 0#8]

/-- FRAME50: the table's match on offsets 0 to 7; the other 42 bytes are data (R54, R73). -/
def decodeFrame (bytes : List Byte) : Except DecodeError Instr :=
  if bytes.length ≠ 50 then .error .frameNotFiftyBytes
  else if bytes.take 7 ≠ frameHead then .error .frameFixedPartWrong
  else if bytes[7]? = some Config.cmdSet then .ok .frameSet
  else if bytes[7]? = some Config.cmdQuery then .ok .frameQuery
  else .error .frameCommandByteUnknown

/-- The decoder. -/
def decode : Encoded → Except DecodeError Instr
  | .cmdw w => .ok (decodeCmdw w)
  | .tick now => .ok (.schedTick now)
  | .rst => .ok .reset
  | .rxbyte st (some b) => .ok (decodeRxByte st b)
  | .rxbyte _ none => .ok .rxEmpty
  | .frame50 bytes => decodeFrame bytes

/-! ### Encode -/

/-- A CMDW word from its two fields (R62). -/
def encodeCmdw (ctl : BitVec 3) (val : Byte) : Encoded := .cmdw (Machine.cmdWord ctl val)

/-- The FRAME50 pattern with command byte `cmd`: the table's match, the data bytes zero (R73). -/
def encodeFrame (cmd : Byte) : Encoded := .frame50 (frameHead ++ cmd :: List.replicate 42 0#8)

/-- The encoder: `none` exactly for the INTERNAL rows, which no encoding selects (R52, R73). RX.EMPTY is
encoded in WAIT_SYNC1, one of its four states. -/
def encode : Instr → Option Encoded
  | .checksum _ => none
  | .frameQuery => some (encodeFrame Config.cmdQuery)
  | .frameSet => some (encodeFrame Config.cmdSet)
  | .frameExtract _ => none
  | .isValid _ => none
  | .fanq _ => none
  | .cfgDec _ => none
  | .cfgEnc _ => none
  | .rxRead => none
  | .rxSync1Hit => some (.rxbyte .waitSync1 (some Config.sync))
  | .rxSync1Skip b => some (.rxbyte .waitSync1 (some b))
  | .rxSync2Hit => some (.rxbyte .waitSync2 (some Config.sync))
  | .rxSync2Miss b => some (.rxbyte .waitSync2 (some b))
  | .rxLen b => some (.rxbyte .readLength (some b))
  | .rxBody b => some (.rxbyte .readBody (some b))
  | .rxEmpty => some (.rxbyte .waitSync1 none)
  | .schedTick now => some (.tick now)
  | .pollFire _ => none
  | .syncUpdate _ => none
  | .xhm _ => none
  | .cmdMode v => some (encodeCmdw 0#3 v)
  | .cmdXhm v => some (encodeCmdw 1#3 v)
  | .cmdTemp v => some (encodeCmdw 2#3 v)
  | .cmdFan v => some (encodeCmdw 3#3 v)
  | .cmdSwing v => some (encodeCmdw 4#3 v)
  | .cmdLight v => some (encodeCmdw 5#3 v)
  | .cmdRsvd s v => some (encodeCmdw (if s then 7#3 else 6#3) v)
  | .reset => some .rst

/-! ### Table words -/

/-- The first `n` bytes of a word whose bit 0 is the least significant bit of the first byte. -/
def wordBytes : Nat → Nat → List Byte
  | 0, _ => []
  | n + 1, w => BitVec.ofNat 8 w :: wordBytes n (w / 256)

/-- What a table word of `nbits` bits presents (log entries 9 and 10): 8 bits are an RXBYTE met in
WAIT_SYNC1, the state every invocation starts in (R111); 11 or 16 bits a CMDW, whose bits above 10 are 0;
32 bits a TICK; 400 bits a FRAME50, offset 0 in the lowest byte (R53). No other width is in the table. -/
def encodedOfTableWord (nbits w : Nat) : Option Encoded :=
  if nbits = 8 then some (.rxbyte .waitSync1 (some (BitVec.ofNat 8 w)))
  else if nbits = 11 ∨ nbits = 16 then
    if w < 2048 then some (.cmdw (BitVec.ofNat 11 w)) else none
  else if nbits = 32 then some (.tick (BitVec.ofNat 32 w))
  else if nbits = 400 then some (.frame50 (wordBytes 50 w))
  else none

/-- The instruction the decoder reads from a table word. -/
def decodeTableWord (nbits w : Nat) : Option Instr :=
  match encodedOfTableWord nbits w with
  | some e => (decode e).toOption
  | none => none

end Sys2Proof
end

