-- ==== Sys2Proof/Machine/State.lean ====
section
/-! DEFINITION. The state of the block as plain data: the spec's persistent registers, the transients of
RX.READ and POLL.FIRE, the environment's inputs and the output trace (`10_state.md`), and two fields of
the model's own (`phase`, `ret`). -/

namespace Sys2Proof.Machine

/-- A Publish event: the six values of R149. -/
structure Published where
  mode  : Byte
  xhm   : Byte
  temp  : Byte
  fan   : Byte
  swing : Bool
  light : Bool
deriving DecidableEq, Repr

/-- One entry of the output trace (R28; one list for both outputs, log entry 20): a byte given to TxWrite,
or a Publish event. The third output, the AIR_ERR level, is the field `airErr`. -/
inductive Event where
  | tx (b : Byte)
  | pub (e : Published)
deriving DecidableEq, Repr

/-- A stimulus the environment presents (R23, R29, R71; log entry 4): a command word, a tick with its NOW and
the answers listed for it, or the reset input. -/
inductive Stimulus where
  | cmd (w : BitVec 11)
  | tick (now : Time) (rx : List Answer)
  | rst
deriving DecidableEq, Repr

/-- RX.STATE, RX.CNT, RX.IDX and BUF, the transients of one RX.READ (R24). -/
structure Reader where
  state : RxState
  cnt   : Byte
  idx   : Nat
  buf   : Frame
deriving DecidableEq, Repr

/-- Where the block's sequencing stands (R23). The model's own field (log entry 2). -/
inductive Phase where
  /-- Level 1: no operation in progress; the next stimulus is taken. -/
  | idle
  /-- Level 2: inside RX.READ; the next answer of RxNext() is taken. -/
  | reading
  /-- A FRAME50 pattern has been selected and its operation is taken next. -/
  | building (bytes : List Byte)
deriving DecidableEq, Repr

/-- The result an operation returned, for the operations that return one. The model's own field (log entry 3). -/
inductive Ret where
  /-- Nothing has been returned yet. -/
  | nothing
  /-- One bit: IS_VALID. -/
  | bit (b : Bool)
  /-- A 4-bit value: FANQ. -/
  | nibble (n : Nibble)
  /-- A byte: CHECKSUM, XHM. -/
  | byte (b : Byte)
  /-- A 16-byte block: FRAME.EXTRACT. -/
  | block (c : Block)
  /-- A 50-byte frame: FRAME.QUERY, FRAME.SET. -/
  | frame (f : Frame)
  /-- A DeviceState: CFG.DEC. -/
  | device (d : DeviceState)
  /-- `ok` (true) or `fail` (false): RX.READ, and the byte step that ends an invocation. -/
  | read (ok : Bool)
deriving DecidableEq, Repr

/-- The state. Persistent registers: CFG (R14), LKS (R16), PEND (R18), AIR_ERR (R19), T_LAST (R21).
Transients: `rx` (R24) and TXF (R25), see log entry 1. Environment: the stimuli not yet taken and the
answers RxNext() has still to give (R27). Output: the trace (R28). Model's own: `phase` and `ret`. -/
structure State where
  cfg    : Block
  lks    : DeviceState
  pend   : Bool
  airErr : Bool
  tLast  : Time
  rx     : Reader
  txf    : Frame
  inbox  : List Stimulus
  source : List Answer
  trace  : List Event
  phase  : Phase
  ret    : Ret
deriving DecidableEq, Repr

/-- The block raises no fault: "No behaviour of this block is treated as `fault`: the block has no trap
and the document says none are fatal" (`93_implementation_defined.md` Part 1, R172). The type has no
constructor, so a step cannot answer one (log entry 18). -/
inductive Fault where
deriving DecidableEq, Repr

/-- Why the model has no next state. -/
inductive Refusal where
  /-- Raised by exec for an instruction without a meaning; no arm uses it. Safe. -/
  | notModelled (mnemonic : String)
  /-- Raised by step when the bytes of a selected FRAME50 pattern are no frame the block builds (R54).
  Safe: no behaviour of the spec is lost, since the block itself only selects the two patterns. -/
  | undecodable (e : DecodeError)
  /-- Raised by CFG.ENC on a DeviceState that is not valid: the spec gives that application no meaning and
  asks a model to refuse it (R103, D24, U6; log entry 19). Safe. -/
  | encodeOfInvalidState
deriving DecidableEq, Repr

/-- The state right after reset (R33). The transients, which the spec gives no reset value, hold what R111
starts an invocation with and a zero frame; nothing is presented, waiting, sent or published (log entry 13). -/
def State.reset : State where
  cfg    := Vector.replicate 16 0#8
  lks    := ⟨0#8, 16#8, 0#8, false, false⟩
  pend   := false
  airErr := false
  tLast  := 0#32
  rx     := ⟨.waitSync1, 0#8, 3, Vector.replicate 50 0#8⟩
  txf    := Vector.replicate 50 0#8
  inbox  := []
  source := []
  trace  := []
  phase  := .idle
  ret    := .nothing

end Sys2Proof.Machine
end

