-- ==== Sys2Proof/Machine/Flags.lean ====
section
/-! DEFINITION. The block's two flags and every rule that writes them. "PEND and AIR_ERR are the only
one-bit state"; no operation sets a flag as a side effect of arithmetic (R20). -/

namespace Sys2Proof.Machine

/-- PEND <- 1, by an accepted command only (R18, R165). -/
def setPend (s : State) : State := { s with pend := true }

/-- PEND <- 0, by every fire, after the frame is written and before the read (R18, R135). -/
def clearPend (s : State) : State := { s with pend := false }

/-- AIR_ERR <- 0 after a read that returned ok, 1 after one that returned fail (R178, the spec's decision D10). -/
def recordRead (ok : Bool) (s : State) : State := { s with airErr := !ok }

end Sys2Proof.Machine
end

