-- ==== Sys2Proof/Machine/Ops.lean ====
section
/-! DEFINITION. The named operations over the block's registers, its byte arrays and its two streams,
shared by the meanings. The block takes no exception and returns from none (R172, R182): where a
processor's model has exception entry, the block has the `fail` result of RX.READ recorded in AIR_ERR
(`finishFire`), and the silent discard of an invalid command (`routeCommand`). -/

namespace Sys2Proof.Machine

/-! ### Registers -/

/-- CFG <- blk. -/
def writeCfg (blk : Block) (s : State) : State := { s with cfg := blk }

/-- LKS <- d. -/
def writeLks (d : DeviceState) (s : State) : State := { s with lks := d }

/-- T_LAST <- now. -/
def writeTLast (now : Time) (s : State) : State := { s with tLast := now }

/-- The reader's transients. -/
def writeRx (r : Reader) (s : State) : State := { s with rx := r }

/-- TXF <- f. -/
def writeTxf (f : Frame) (s : State) : State := { s with txf := f }

/-- The answers RxNext() has still to give. -/
def writeSource (l : List Answer) (s : State) : State := { s with source := l }

/-- The stimuli not yet taken. -/
def writeInbox (l : List Stimulus) (s : State) : State := { s with inbox := l }

/-- The sequencing phase. -/
def writePhase (p : Phase) (s : State) : State := { s with phase := p }

/-- The result an operation returns. -/
def returns (r : Ret) (s : State) : State := { s with ret := r }

/-! ### The two streams and the publish output -/

/-- Append one event to the output trace. -/
def emit (e : Event) (s : State) : State := { s with trace := s.trace ++ [e] }

/-- TxWrite(b): append a byte to the serial output; never fails, never blocks (R43). -/
def txWrite (b : Byte) (s : State) : State := emit (.tx b) s

/-- TxWrite of each byte in turn, first byte first (R46, R133). -/
def txWriteAll : List Byte → State → State
  | [], s => s
  | b :: bs, s => txWriteAll bs (txWrite b s)

/-- RxNext(): the source's next answer; a byte answered is removed, and a source with nothing left
answers `none`, which removes nothing (R42, R71, log entry 5). -/
def rxNext (s : State) : Answer × State :=
  match s.source with
  | [] => (none, s)
  | a :: rest => (a, writeSource rest s)

/-- The event Publish(s, XHM(s.mode)) carries: all five fields and the derived value (R148, R149). -/
def publishedOf (d : DeviceState) : Published := ⟨d.mode, xhmOf d.mode, d.temp, d.fan, d.swing, d.light⟩

/-- Publish (R149). -/
def publish (d : DeviceState) (s : State) : State := emit (.pub (publishedOf d)) s

/-! ### Frame Codec -/

/-- The sum of a list of bytes as an unbounded number. -/
def sumBytes : List Byte → Nat
  | [] => 0
  | b :: bs => b.toNat + sumBytes bs

/-- CHECKSUM(F): the sum of offsets 2 to 47 modulo 256 (R76). -/
def checksum (f : Frame) : Byte := BitVec.ofNat 8 (sumBytes ((f.toList.drop 2).take 46))

/-- The frame map of R35 at offset `k`, offset 49 left 0 for the checksum. -/
def frameByte (pf : Vector Byte 25) (blk : Block) (isSet : Bool) (k : Fin 50) : Byte :=
  if k.val < 2 then Config.sync
  else if k.val = 2 then Config.lenVal
  else if k.val = 3 then Config.fixed3
  else if k.val < 7 then 0#8
  else if k.val = 7 then (if isSet then Config.cmdSet else Config.cmdQuery)
  else if h : k.val < 24 then blk[k.val - 8]
  else if h' : k.val < 49 then pf[k.val - 24]
  else 0#8

/-- FRAME.BUILD(C, isSet) with the postfix `pf`: the frame map, then the checksum at offset 49 (R77, R78).
Irreducible, so that the elaborator does not compute 50 bytes whenever it compares two states; the kernel
computes it, and `buildFrame_getElem` and `buildFrame_checksum` (Laws/Ops.lean) say what it holds. -/
@[irreducible] def buildFrame (pf : Vector Byte 25) (blk : Block) (isSet : Bool) : Frame :=
  let f : Frame := Vector.ofFn (frameByte pf blk isSet)
  f.set 49 (checksum f)

/-- FRAME.EXTRACT(B): buffer offsets 8 to 23, nothing checked (R82, R83). Irreducible as `buildFrame` is;
`extractBlock_getElem` says what it holds. -/
@[irreducible] def extractBlock (f : Frame) : Block := Vector.ofFn fun i : Fin 16 => f[8 + i.val]

/-- TXF <- FRAME.BUILD(CFG, isSet) with the device's POSTFIX. -/
def buildTxf (isSet : Bool) (s : State) : State :=
  writeTxf (buildFrame Config.postfixBytes s.cfg isSet) s

/-! ### Bit-Packer -/

/-- CFG.ENC in place, under its precondition IS_VALID(d) = 1 (R101, R103). -/
def encodeInto (d : DeviceState) (s : State) : Host.Outcome State Fault Refusal :=
  if isValid d then .next (writeCfg (encodeCfg d s.cfg) s) else .refused .encodeOfInvalidState

/-! ### Frame Reader -/

/-- The start of every invocation (R111; the clearing of BUF is the spec's decision D12). -/
def readerInit : Reader := ⟨.waitSync1, 0#8, 3, Vector.replicate 50 0#8⟩

/-- RX.STATE <- st. -/
def readerGoto (st : RxState) (r : Reader) : Reader := { r with state := st }

/-- RX.LEN: RX.CNT <- b, RX.STATE <- READ_BODY; b is not compared with 47 (R115). -/
def readerLen (b : Byte) (r : Reader) : Reader := { r with cnt := b, state := .readBody }

/-- BUF[RX.IDX] <- b, if RX.IDX is at most 49 (R116, D13). -/
def storeBody (b : Byte) (r : Reader) : Frame :=
  if h : r.idx < 50 then r.buf.set r.idx b else r.buf

/-- RX.BODY: store, advance the index saturating at 50, decrement the count modulo 256 (R116). -/
def readerBody (b : Byte) (r : Reader) : Reader :=
  { r with buf := storeBody b r, idx := min (r.idx + 1) 50, cnt := r.cnt - 1#8 }

/-- Whether a RX.BODY just done was the frame's last: the test comes after the decrement (R116). -/
def bodyComplete (r : Reader) : Bool := decide (r.cnt = 0#8)

/-- One pass of RX.READ's loop with the byte in hand: the reader afterwards, and whether the frame is
complete (R112). -/
def readerByte (b : Byte) (r : Reader) : Reader × Bool :=
  match r.state with
  | .waitSync1 => (if b = Config.sync then readerGoto .waitSync2 r else r, false)
  | .waitSync2 => (readerGoto (if b = Config.sync then .readLength else .waitSync1) r, false)
  | .readLength => (readerLen b r, false)
  | .readBody => (readerBody b r, bodyComplete (readerBody b r))

/-- What an invocation comes to: its result, the reader at its end, and the answers not asked for. -/
structure ReadRun where
  ok     : Bool
  reader : Reader
  left   : List Answer
deriving DecidableEq, Repr

/-- RX.READ's loop over the answers the source will give, `none` for ever after the last (R112, R127, D25). -/
def readAnswers : List Answer → Reader → ReadRun
  | [], r => ⟨false, r, []⟩
  | none :: rest, r => ⟨false, r, rest⟩
  | some b :: rest, r =>
    if (readerByte b r).2 then ⟨true, (readerByte b r).1, rest⟩
    else readAnswers rest (readerByte b r).1

/-- The whole of an invocation from its start on these answers. -/
def readRun (l : List Answer) : ReadRun := readAnswers l readerInit

/-- CFG <- FRAME.EXTRACT(BUF) (R117). -/
def copyOut (r : Reader) (s : State) : State := writeCfg (extractBlock r.buf) s

/-- The state RX.READ leaves: the consumed answers gone, the reader's transients abandoned where they
stood, CFG overwritten on `ok` and only then (R110, R112, R117, R118). -/
def afterRead (s : State) : State :=
  let run := readRun s.source
  let t := writeSource run.left (writeRx run.reader s)
  if run.ok then copyOut run.reader t else t

/-- RX.READ's result, `ok` as true (R110). -/
def readOk (s : State) : Bool := (readRun s.source).ok

/-! ### State Synchronizer -/

/-- SYNC.UPDATE: drop an invalid state, drop an unchanged one, else latch and publish (R146, R147). -/
def synchronize (d : DeviceState) (s : State) : State :=
  if isValid d = false then s
  else if d = s.lks then s
  else publish d (writeLks d s)

/-! ### Poll/Push Scheduler -/

/-- The first half of a fire: T_LAST, the frame chosen by PEND, its 50 bytes, PEND cleared (R132 to R135). -/
def sendFrame (now : Time) (s : State) : State :=
  let s1 := writeTLast now s
  let s2 := buildTxf s1.pend s1
  clearPend (txWriteAll s2.txf.toList s2)

/-- What a fire does with its read's result (R136, R137): the failure is absorbed into AIR_ERR. -/
def finishFire (ok : Bool) (s : State) : State :=
  if ok then synchronize (decodeCfg s.cfg) (recordRead true s) else recordRead false s

/-- POLL.FIRE(NOW), one poll cycle (R133). -/
def fire (now : Time) (s : State) : State :=
  let s1 := sendFrame now s
  finishFire (readOk s1) (afterRead s1)

/-- elapsed: `(NOW - T_LAST) mod 2^32` (R130, R131). -/
def elapsed (now : Time) (s : State) : Time := now - s.tLast

/-- SCHED.TICK's test: elapsed is at least POLL_INTERVAL_MS (R130). -/
def intervalElapsed (now : Time) (s : State) : Bool := decide (Config.pollIntervalMs ≤ elapsed now s)

/-! ### Command Router -/

/-- The common end of the six controls: a candidate that is not valid is discarded without a trace,
a valid one is encoded into CFG and PEND set (R156, R164, R165). -/
def routeCommand (c : DeviceState) (s : State) : State :=
  if isValid c then setPend (writeCfg (encodeCfg c s.cfg) s) else s

/-! ### Reset -/

/-- RESET: the persistent registers take R33's values and an operation in progress is abandoned; the
transients, the receive source, the waiting stimuli and what was sent and published are not touched
(R192, log entry 14). -/
def resetRegisters (s : State) : State :=
  { s with cfg := State.reset.cfg, lks := State.reset.lks, pend := State.reset.pend,
           airErr := State.reset.airErr, tLast := State.reset.tLast, phase := .idle }

end Sys2Proof.Machine
end

