-- ==== Sys2Proof/Machine/BitPacker.lean ====
section
/-! DEFINITION. The meanings of the Configuration Bit-Packer's operations (`41_bit_packer.md`). -/

namespace Sys2Proof.Machine

/-- IS_VALID (R86). -/
def execIsValid (d : DeviceState) (s : State) : Host.Outcome State Fault Refusal :=
  .next (returns (.bit (isValid d)) s)

/-- FANQ (R87). -/
def execFanq (f : Byte) (s : State) : Host.Outcome State Fault Refusal :=
  .next (returns (.nibble (fanQuant f)) s)

/-- CFG.DEC (R94). -/
def execCfgDec (c : Block) (s : State) : Host.Outcome State Fault Refusal :=
  .next (returns (.device (decodeCfg c)) s)

/-- CFG.ENC: into CFG for a valid state; an invalid one is refused (R101, R103). -/
def execCfgEnc (d : DeviceState) (s : State) : Host.Outcome State Fault Refusal :=
  encodeInto d s

end Sys2Proof.Machine
end

