-- ==== Sys2Proof/Machine/CommandRouter.lean ====
section
/-! DEFINITION. The meanings of the Command Router's operations (`45_command_router.md`). Each forms its
candidate from a copy of LKS with exactly one field changed (R155, R156). -/

namespace Sys2Proof.Machine

/-- CMD.MODE: `c.mode <- val` (R157). -/
def execCmdMode (val : Byte) (s : State) : Host.Outcome State Fault Refusal :=
  .next (routeCommand { s.lks with mode := val } s)

/-- CMD.XHM: `c.mode <- 5 if val = 1 else 2 if val = 2 else 0` (R158). -/
def execCmdXhm (val : Byte) (s : State) : Host.Outcome State Fault Refusal :=
  .next (routeCommand { s.lks with mode := xhmToMode val } s)

/-- CMD.TEMP: `c.temp <- val` (R159). -/
def execCmdTemp (val : Byte) (s : State) : Host.Outcome State Fault Refusal :=
  .next (routeCommand { s.lks with temp := val } s)

/-- CMD.FAN: `c.fan <- val` (R160). -/
def execCmdFan (val : Byte) (s : State) : Host.Outcome State Fault Refusal :=
  .next (routeCommand { s.lks with fan := val } s)

/-- CMD.SWING: `c.swing <- 1 if val != 0 else 0` (R161). -/
def execCmdSwing (val : Byte) (s : State) : Host.Outcome State Fault Refusal :=
  .next (routeCommand { s.lks with swing := valToBool val } s)

/-- CMD.LIGHT: `c.light <- 1 if val != 0 else 0` (R162). -/
def execCmdLight (val : Byte) (s : State) : Host.Outcome State Fault Refusal :=
  .next (routeCommand { s.lks with light := valToBool val } s)

/-- CMD.RSVD: selectors 6 and 7, no effect whatever (R166). -/
def execCmdRsvd (_s : Bool) (_val : Byte) (s : State) : Host.Outcome State Fault Refusal :=
  .next s

end Sys2Proof.Machine
end

