-- ==== Sys2Proof/Machine/FrameCodec.lean ====
section
/-! DEFINITION. The meanings of the Frame Codec's operations (`40_frame_codec.md`). -/

namespace Sys2Proof.Machine

/-- CHECKSUM (R76). -/
def execChecksum (f : Frame) (s : State) : Host.Outcome State Fault Refusal :=
  .next (returns (.byte (checksum f)) s)

/-- FRAME.QUERY: FRAME.BUILD(CFG, 0) (R79). -/
def execFrameQuery (s : State) : Host.Outcome State Fault Refusal :=
  let t := buildTxf false s
  .next (returns (.frame t.txf) t)

/-- FRAME.SET: FRAME.BUILD(CFG, 1) (R80). -/
def execFrameSet (s : State) : Host.Outcome State Fault Refusal :=
  let t := buildTxf true s
  .next (returns (.frame t.txf) t)

/-- FRAME.EXTRACT (R82). -/
def execFrameExtract (f : Frame) (s : State) : Host.Outcome State Fault Refusal :=
  .next (returns (.block (extractBlock f)) s)

end Sys2Proof.Machine
end

