-- ==== Sys2Proof/Machine/FrameReader.lean ====
section
/-! DEFINITION. The meanings of the Frame Reader's operations (`42_frame_reader.md`). A byte-step operation
acts on a byte already consumed; which of them a byte selects is decoding (R63, log entry 12). -/

namespace Sys2Proof.Machine

/-- RX.READ, the whole operation (R112). -/
def execRxRead (s : State) : Host.Outcome State Fault Refusal :=
  .next (returns (.read (readOk s)) (afterRead s))

/-- RX.SYNC1.HIT: RX.STATE <- WAIT_SYNC2 (R113). -/
def execRxSync1Hit (s : State) : Host.Outcome State Fault Refusal :=
  .next (writeRx (readerGoto .waitSync2 s.rx) s)

/-- RX.SYNC1.SKIP: the byte is dropped, RX.STATE stays (R113). -/
def execRxSync1Skip (_b : Byte) (s : State) : Host.Outcome State Fault Refusal :=
  .next s

/-- RX.SYNC2.HIT: RX.STATE <- READ_LENGTH (R114). -/
def execRxSync2Hit (s : State) : Host.Outcome State Fault Refusal :=
  .next (writeRx (readerGoto .readLength s.rx) s)

/-- RX.SYNC2.MISS: the byte is dropped, RX.STATE <- WAIT_SYNC1 (R114). -/
def execRxSync2Miss (_b : Byte) (s : State) : Host.Outcome State Fault Refusal :=
  .next (writeRx (readerGoto .waitSync1 s.rx) s)

/-- RX.LEN (R115). -/
def execRxLen (b : Byte) (s : State) : Host.Outcome State Fault Refusal :=
  .next (writeRx (readerLen b s.rx) s)

/-- RX.BODY: store, advance, decrement; if the count is now 0 the copy-out is done and the invocation
returns ok (R116, R117). -/
def execRxBody (b : Byte) (s : State) : Host.Outcome State Fault Refusal :=
  let r := readerBody b s.rx
  if bodyComplete r then .next (returns (.read true) (writePhase .idle (copyOut r (writeRx r s))))
  else .next (writeRx r s)

/-- RX.EMPTY: the invocation ends at once with fail, nothing persistent changed (R118). -/
def execRxEmpty (s : State) : Host.Outcome State Fault Refusal :=
  .next (returns (.read false) (writePhase .idle s))

end Sys2Proof.Machine
end

