-- ==== Sys2Proof/Machine/Reset.lean ====
section
/-! DEFINITION. The meaning of RESET (`70_reset_and_hazards.md`). -/

namespace Sys2Proof.Machine

/-- RESET (R192). -/
def execReset (s : State) : Host.Outcome State Fault Refusal :=
  .next (resetRegisters s)

end Sys2Proof.Machine
end

