-- ==== Sys2Proof/Machine/Scheduler.lean ====
section
/-! DEFINITION. The meanings of the Poll/Push Scheduler's operations (`43_scheduler.md`). -/

namespace Sys2Proof.Machine

/-- SCHED.TICK: fire if the interval has elapsed, else nothing at all happens (R130). -/
def execSchedTick (now : Time) (s : State) : Host.Outcome State Fault Refusal :=
  if intervalElapsed now s then .next (fire now s) else .next s

/-- POLL.FIRE (R133). -/
def execPollFire (now : Time) (s : State) : Host.Outcome State Fault Refusal :=
  .next (fire now s)

end Sys2Proof.Machine
end

