-- ==== Sys2Proof/Machine/Synchronizer.lean ====
section
/-! DEFINITION. The meanings of the State Synchronizer's operations (`44_state_synchronizer.md`). -/

namespace Sys2Proof.Machine

/-- SYNC.UPDATE (R146). -/
def execSyncUpdate (d : DeviceState) (s : State) : Host.Outcome State Fault Refusal :=
  .next (synchronize d s)

/-- XHM (R150). -/
def execXhm (mode : Byte) (s : State) : Host.Outcome State Fault Refusal :=
  .next (returns (.byte (xhmOf mode)) s)

end Sys2Proof.Machine
end

