-- ==== Sys2Proof/Machine/Dispatch.lean ====
section
/-! DEFINITION. exec: one arm per operation of `30_encoding.md` R52, each a direct call of its meaning. -/

namespace Sys2Proof.Machine

def exec (i : Instr) (s : State) : Host.Outcome State Fault Refusal :=
  match i with
  | .checksum f => Sys2Proof.Machine.execChecksum f s
  | .frameQuery => Sys2Proof.Machine.execFrameQuery s
  | .frameSet => Sys2Proof.Machine.execFrameSet s
  | .frameExtract f => Sys2Proof.Machine.execFrameExtract f s
  | .isValid d => Sys2Proof.Machine.execIsValid d s
  | .fanq f => Sys2Proof.Machine.execFanq f s
  | .cfgDec c => Sys2Proof.Machine.execCfgDec c s
  | .cfgEnc d => Sys2Proof.Machine.execCfgEnc d s
  | .rxRead => Sys2Proof.Machine.execRxRead s
  | .rxSync1Hit => Sys2Proof.Machine.execRxSync1Hit s
  | .rxSync1Skip b => Sys2Proof.Machine.execRxSync1Skip b s
  | .rxSync2Hit => Sys2Proof.Machine.execRxSync2Hit s
  | .rxSync2Miss b => Sys2Proof.Machine.execRxSync2Miss b s
  | .rxLen b => Sys2Proof.Machine.execRxLen b s
  | .rxBody b => Sys2Proof.Machine.execRxBody b s
  | .rxEmpty => Sys2Proof.Machine.execRxEmpty s
  | .schedTick now => Sys2Proof.Machine.execSchedTick now s
  | .pollFire now => Sys2Proof.Machine.execPollFire now s
  | .syncUpdate d => Sys2Proof.Machine.execSyncUpdate d s
  | .xhm mode => Sys2Proof.Machine.execXhm mode s
  | .cmdMode val => Sys2Proof.Machine.execCmdMode val s
  | .cmdXhm val => Sys2Proof.Machine.execCmdXhm val s
  | .cmdTemp val => Sys2Proof.Machine.execCmdTemp val s
  | .cmdFan val => Sys2Proof.Machine.execCmdFan val s
  | .cmdSwing val => Sys2Proof.Machine.execCmdSwing val s
  | .cmdLight val => Sys2Proof.Machine.execCmdLight val s
  | .cmdRsvd sel val => Sys2Proof.Machine.execCmdRsvd sel val s
  | .reset => Sys2Proof.Machine.execReset s

end Sys2Proof.Machine
end

