-- ==== Sys2Proof/Machine/Fetch.lean ====
section
/-! DEFINITION. What step takes next, and where a table word is put so that step takes it next. -/

namespace Sys2Proof.Machine

/-- The bytes among the answers left over, which "stay for the next TICK and are put in front of that
TICK's list" (R71); a listed `none` is over when its tick is (log entry 6). -/
def leftoverBytes (l : List Answer) : List Answer := l.filter Option.isSome

/-- The answers a tick's listing adds to the source (R71). -/
def listAnswers (rx : List Answer) (s : State) : State := writeSource (leftoverBytes s.source ++ rx) s

/-- Take a stimulus at level 1 (R23): nothing when the inbox is empty. -/
def takeStimulus (s : State) : Option (Encoded × State) :=
  match s.inbox with
  | [] => none
  | .cmd w :: rest => some (.cmdw w, writeInbox rest s)
  | .tick now rx :: rest => some (.tick now, listAnswers rx (writeInbox rest s))
  | .rst :: rest => some (.rst, writeInbox rest s)

/-- Take what the phase asks for: a stimulus, the next answer of RxNext(), or the selected frame pattern. -/
def takeByPhase (s : State) : Option (Encoded × State) :=
  match s.phase with
  | .idle => takeStimulus s
  | .reading => some (.rxbyte s.rx.state (rxNext s).1, (rxNext s).2)
  | .building bytes => some (.frame50 bytes, writePhase .idle s)

/-- What step takes next and the state without it. The reset input goes before any operation in progress,
which it abandons (R192). -/
def fetch (s : State) : Option (Encoded × State) :=
  match s.inbox with
  | .rst :: rest => some (.rst, writeInbox rest s)
  | _ => takeByPhase s

/-- `s` with this presented next: a command or tick at the head of the inbox, an RXBYTE at the head of the
source of an invocation that stands in the byte's state, a FRAME50 as the selected pattern (log entry 8).
DESIGN CHOICE (log entry 8): an RXBYTE stands for a byte in the middle of an invocation, so RX.STATE alone is set, and
RX.CNT, RX.IDX and BUF stay what the last invocation, also a failed one, left; it is not the start of R111. -/
def present (e : Encoded) (s : State) : State :=
  let unreset := s.inbox.dropWhile (fun x => decide (x = .rst))
  match e with
  | .cmdw w => writePhase .idle (writeInbox (.cmd w :: s.inbox) s)
  | .tick now => writePhase .idle (writeInbox (.tick now [] :: s.inbox) s)
  | .rst => writeInbox (.rst :: s.inbox) s
  | .rxbyte st a =>
    writePhase .reading (writeInbox unreset (writeSource (a :: s.source) (writeRx (readerGoto st s.rx) s)))
  | .frame50 bytes => writePhase (.building bytes) (writeInbox unreset s)

/-- `s` with a table word presented next; for a word that is none of the table's formats, a pattern that
the decoder rejects. -/
def presentTableWord (nbits w : Nat) (s : State) : State :=
  match encodedOfTableWord nbits w with
  | some e => present e s
  | none => present (.frame50 []) s

end Sys2Proof.Machine
end

