-- ==== Sys2Proof/Machine/Step.lean ====
section
/-! DEFINITION. One step: take what is presented next, decode it, run it. With nothing presented the block
idles: the step answers the same state (R23, log entry 4). -/

namespace Sys2Proof.Machine

/-- One step of the block. At level 1 it is one atomic operation: a command, a tick with the whole poll
cycle it may start, or a reset (R44). -/
def step (s : State) : Host.Outcome State Fault Refusal :=
  match fetch s with
  | none => .next s
  | some (e, s1) =>
    match decode e with
    | .ok i => exec i s1
    | .error err => .refused (.undecodable err)

/-- `s` with this table word stored where step takes its next instruction (log entries 8, 9, 10). -/
def State.withFetchWord (s : State) (nbits w : Nat) : State := presentTableWord nbits w s

end Sys2Proof.Machine
end

