-- ==== Sys2Proof/Machine/HostStatus.lean ====
section
/-! DEFINITION. The aggregate status of `60_exceptions.md` R184, which the host computes and the block only
feeds with AIR_ERR. No operation reads it; it is given because the spec gives it (log entry 21). -/

namespace Sys2Proof.Machine

/-- The four symbolic values; no numeric code exists (R180, R184). -/
inductive AggregateStatus where
  | transport
  | bus
  | device
  | ok
deriving DecidableEq, Repr

/-- STATUS(transport_down, bus_down, air_err): transport > bus > device > ok (R184). -/
def aggregateStatus (transportDown busDown airErr : Bool) : AggregateStatus :=
  if transportDown then .transport else if busDown then .bus else if airErr then .device else .ok

/-- The aggregate with the block's own input, the STATUS level AIR_ERR (R29). -/
def statusOf (transportDown busDown : Bool) (s : State) : AggregateStatus :=
  aggregateStatus transportDown busDown s.airErr

end Sys2Proof.Machine
end

