-- ==== Sys2Proof/Safety.lean ====
section
/-! DEFINITION. What the spec promises of every state the block can be in, in the terms the statements use. -/

namespace Sys2Proof.Machine

/-- A Publish event carries a valid state and the X-HM-Mode value derived from its mode (R149, "Only valid
states may be encoded or published", R86). -/
def eventOk : Event → Bool
  | .tx _ => true
  | .pub e => isValid ⟨e.mode, e.temp, e.fan, e.swing, e.light⟩ && decide (e.xhm = xhmOf e.mode)

/-- RX.IDX "ranges 3 to 50" (R11, R24). -/
def readerIndexOk (r : Reader) : Bool := decide (3 ≤ r.idx) && decide (r.idx ≤ 50)

/-- `k` steps, stopping at the first answer that is no next state: Host.Core.run of the machine, over State. -/
def runSteps : Nat → State → Host.Outcome State Fault Refusal
  | 0, s => .next s
  | k + 1, s =>
    match step s with
    | .next t => runSteps k t
    | .fault r => .fault r
    | .refused r => .refused r

/-- The invariant: LKS is valid (R16); every state ever published was valid (R86, R149); a pending command's
block encodes a valid state (R103, R165), and no read is in progress while a command is pending (R135);
RX.IDX stays in its range (R11). -/
structure MachineInv (s : State) : Prop where
  lksValid     : isValid s.lks = true
  published    : s.trace.all eventOk = true
  pendingValid : s.pend = true → isValid (decodeCfg s.cfg) = true
  notReading   : s.phase = .reading → s.pend = false
  indexOk      : readerIndexOk s.rx = true

/-- The block offsets whose bytes no operation but a whole-block overwrite changes: 3, 5 to 13, 15 (R15). -/
def reservedByte (i : Nat) : Bool := decide (i = 3) || (decide (5 ≤ i) && decide (i ≤ 13)) || decide (i = 15)

/-- The seven operations a command word selects (R52). -/
def isCommand : Instr → Bool
  | .cmdMode _ => true
  | .cmdXhm _ => true
  | .cmdTemp _ => true
  | .cmdFan _ => true
  | .cmdSwing _ => true
  | .cmdLight _ => true
  | .cmdRsvd _ _ => true
  | _ => false

/-- SCHED.TICK, and POLL.FIRE that it runs (R130, R133). -/
def isFire : Instr → Bool
  | .schedTick _ => true
  | .pollFire _ => true
  | _ => false

/-- SYNC.UPDATE by itself (R146). -/
def isSync : Instr → Bool
  | .syncUpdate _ => true
  | _ => false

/-- The operations that can end with the copy-out of a received block: RX.READ and RX.BODY (R117). -/
def isCopyOut : Instr → Bool
  | .rxRead => true
  | .rxBody _ => true
  | _ => false

/-- The layout of a frame with this block and command byte (R35, R77, R78), POSTFIX whatever it is, and the
checksum of its own offsets 2 to 47 at offset 49 (R76, R84). -/
def FrameLayout (f : Frame) (blk : Block) (cmd : Byte) : Prop :=
  f[0] = 0x7E#8 ∧ f[1] = 0x7E#8 ∧ f[2] = 0x2F#8 ∧
  f[3] = 0x01#8 ∧ f[4] = 0x00#8 ∧ f[5] = 0x00#8 ∧ f[6] = 0x00#8 ∧ f[7] = cmd ∧
  (∀ i : Fin 16, f[8 + i.val] = blk[i.val]) ∧
  (∀ j : Fin 25, f[24 + j.val] = Config.postfixBytes[j.val]) ∧
  f[49].toNat = (∑ k : Fin 46, (f[k.val + 2]).toNat) % 256

/-- A FRAME50 pattern of the opcode table with this command byte: 50 bytes, offsets 0 to 7 as match and mask give
them (R53, R73). -/
def MatchesFrameRow (bytes : List Byte) (cmd : Byte) : Prop :=
  bytes.length = 50 ∧ bytes.take 8 = [0x7E#8, 0x7E#8, 0x2F#8, 0x01#8, 0x00#8, 0x00#8, 0x00#8, cmd]

/-- The Publish events of a trace, in order. -/
def publishedEvents (l : List Event) : List Published :=
  l.filterMap fun
    | .tx _ => none
    | .pub e => some e

/-- The bytes sent in a trace, in order. -/
def sentBytes (l : List Event) : List Byte :=
  l.filterMap fun
    | .tx b => some b
    | .pub _ => none

end Sys2Proof.Machine
end

