-- ==== Sys2Proof/Certificates/Slice0/Obligations.lean ====
section
/-! DEFINITION. The statements for the provers. A docstring names the rules of spec/ a statement formalises;
where a clause rests on a choice that the spec marks as its own (`92_eei_decisions.md`) or on a log entry of
the model, it says so. Memory: the block has none that is addressed (R34); what stands in its place is
CFG, BUF and TXF, fields of State, and a statement of the form `exec i s = .next {s with …}` says that every
other field, and so every other byte, is unchanged. The fields `rx`, `txf`, `phase`, `ret`, `inbox`, `source` and
`trace` are how the model holds the spec's transients, results, inputs and outputs (log entries 1 to 4, 20). -/

open Sys2Proof Sys2Proof.Machine

/-! ### Frame Codec -/

/-- R76: CHECKSUM(F) is the sum of offsets 2 to 47 modulo 256; nothing but the result is written. -/
def Obligations.ChecksumSumsOffsets2To47 : Prop :=
  ∀ (f : Frame) (s : State), ∃ v : Byte,
    exec (.checksum f) s = .next { s with ret := .byte v } ∧
    v.toNat = (∑ k : Fin 46, (f[k.val + 2]).toNat) % 256

/-- R77, R78, R84: FRAME.QUERY and FRAME.SET write TXF with the fixed layout around the current CFG, command
byte 00 and AF, and return it; nothing else changes. -/
def Obligations.FramesHaveTheFixedLayout : Prop :=
  ∀ s : State,
    (∃ f : Frame, exec .frameQuery s = .next { s with txf := f, ret := .frame f } ∧
      FrameLayout f s.cfg 0x00#8) ∧
    (∃ f : Frame, exec .frameSet s = .next { s with txf := f, ret := .frame f } ∧
      FrameLayout f s.cfg 0xAF#8)

/-- Derived in R79 and R80: the checksum byte in closed form, from CFG and the first 24 postfix bytes. -/
def Obligations.FrameChecksumClosedForm : Prop :=
  ∀ s : State, ∃ tq ts : State,
    exec .frameQuery s = .next tq ∧ exec .frameSet s = .next ts ∧
    tq.txf[49].toNat = (0x30 + (∑ i : Fin 16, (s.cfg[i.val]).toNat)
      + (∑ j : Fin 24, (Config.postfixBytes[j.val]).toNat)) % 256 ∧
    ts.txf[49].toNat = (0xDF + (∑ i : Fin 16, (s.cfg[i.val]).toNat)
      + (∑ j : Fin 24, (Config.postfixBytes[j.val]).toNat)) % 256

/-- Derived in R80: a set frame and a query frame built from the same CFG differ in exactly two bytes, offset
7 and offset 49, and the set frame's checksum is the query frame's plus AF mod 256. -/
def Obligations.SetAndQueryDifferInTwoBytes : Prop :=
  ∀ s : State, ∃ tq ts : State,
    exec .frameQuery s = .next tq ∧ exec .frameSet s = .next ts ∧
    (∀ k : Fin 50, tq.txf[k.val] ≠ ts.txf[k.val] ↔ k.val = 7 ∨ k.val = 49) ∧
    ts.txf[49] = tq.txf[49] + 0xAF#8

/-- R82: FRAME.EXTRACT(B) returns the bytes at buffer offsets 8 to 23 and writes nothing. -/
def Obligations.ExtractCopiesOffsets8To23 : Prop :=
  ∀ (f : Frame) (s : State), ∃ blk : Block,
    exec (.frameExtract f) s = .next { s with ret := .block blk } ∧
    ∀ i : Fin 16, blk[i.val] = f[8 + i.val]

/-- Derived in R85: extract after build gives the block back, for every block, flag and postfix. -/
def Obligations.ExtractAfterBuild : Prop :=
  ∀ (pf : Vector Byte 25) (blk : Block) (isSet : Bool), extractBlock (buildFrame pf blk isSet) = blk

/-! ### Configuration Bit-Packer -/

/-- R86: IS_VALID is true iff all three bounds hold; swing and light play no part. -/
def Obligations.ValidIffThreeBounds : Prop :=
  ∀ (d : DeviceState) (s : State), ∃ v : Bool,
    exec (.isValid d) s = .next { s with ret := .bit v } ∧
    (v = true ↔ d.mode.toNat ≤ 5 ∧ 16 ≤ d.temp.toNat ∧ d.temp.toNat ≤ 30 ∧ d.fan.toNat ≤ 5)

/-- R87: the quantized fan. For fan values above 5, which no other operation passes, the pseudocode's last
line applies (log entry 15). -/
def Obligations.FanQuantization : Prop :=
  ∀ (f : Byte) (s : State), ∃ n : Nibble,
    exec (.fanq f) s = .next { s with ret := .nibble n } ∧
    (f.toNat < 3 → n.toNat = f.toNat) ∧ (f.toNat = 3 → n = 2#4) ∧ (3 < f.toNat → n = 3#4)

/-- R88 to R92, R94: CFG.DEC reads five places of the block it is given and writes nothing. That light is the bit of
weight 2 rests on the bit numbering of log entry 16 (PRESUMED, the spec's G1 and D5). -/
def Obligations.DecodeReadsFiveFields : Prop :=
  ∀ (blk : Block) (s : State), ∃ d : DeviceState,
    exec (.cfgDec blk) s = .next { s with ret := .device d } ∧
    d.mode.toNat = (if blk[0].toNat / 16 ≤ 7 then 0 else blk[0].toNat / 16 - 7) ∧
    d.temp.toNat = blk[1].toNat / 16 + 16 ∧
    d.fan.toNat = blk[14].toNat % 16 ∧
    (d.swing = true ↔ 0 < blk[4].toNat / 16) ∧
    d.light = blk[2].toNat.testBit 1

/-- R95 to R99 and the reserved bytes of R15: what CFG.ENC writes for a valid state and that it changes nothing but
CFG. That light goes to the bit of weight 2 rests on the bit numbering of log entry 16 (PRESUMED, the spec's G1 and
D5). Of byte 14 this says the low nibble, the raw fan; its high nibble is the spec's decision D18,
`EncodeClearsByte14HighNibble`. -/
def Obligations.EncodeWritesItsTargets : Prop :=
  ∀ (d : DeviceState) (s : State), isValid d = true → ∃ blk : Block,
    exec (.cfgEnc d) s = .next { s with cfg := blk } ∧
    blk[0].toNat / 16 = (if 0 < d.mode.toNat then d.mode.toNat + 7 else 0) ∧
    blk[0].toNat % 16 = (if d.fan.toNat < 3 then d.fan.toNat else if d.fan.toNat = 3 then 2 else 3) ∧
    blk[1].toNat = 16 * (d.temp.toNat - 16) + s.cfg[1].toNat % 16 ∧
    (∀ j : Fin 8, blk[2].getLsbD j.val = if j.val = 1 then d.light else s.cfg[2].getLsbD j.val) ∧
    blk[4].toNat = 16 * d.swing.toNat ∧
    blk[14].toNat % 16 = d.fan.toNat ∧
    ∀ i : Fin 16, reservedByte i.val = true → blk[i.val] = s.cfg[i.val]

/-- The spec's decision D18 (R100): the whole of byte 14 is written, its high nibble becomes 0. -/
def Obligations.EncodeClearsByte14HighNibble : Prop :=
  ∀ (d : DeviceState) (s : State), isValid d = true → ∃ t : State,
    exec (.cfgEnc d) s = .next t ∧ t.cfg[14] = d.fan ∧ t.cfg[14].toNat / 16 = 0

/-- The spec's decision D24 (R103) and log entry 19: CFG.ENC of a state that is not valid is refused by name. -/
def Obligations.EncodeOfInvalidStateRefused : Prop :=
  ∀ (d : DeviceState) (s : State), isValid d = false → exec (.cfgEnc d) s = .refused .encodeOfInvalidState

/-- R106, the round-trip property: over any prior block, decoding what a valid state was encoded to gives
that state. -/
def Obligations.DecodeAfterEncode : Prop :=
  ∀ (d : DeviceState) (s : State), isValid d = true → ∃ t : State,
    exec (.cfgEnc d) s = .next t ∧ exec (.cfgDec t.cfg) t = .next { t with ret := .device d }

/-- Derived in R108 and R171: an encode over an earlier encode leaves what it leaves alone. -/
def Obligations.LastEncodeWins : Prop :=
  ∀ (d e : DeviceState) (s : State), isValid d = true → isValid e = true → ∃ t u : State,
    exec (.cfgEnc d) s = .next t ∧ exec (.cfgEnc e) t = .next u ∧ exec (.cfgEnc e) s = .next u

/-- The spec's decision D17 (R150): XHM(5) = 1, XHM(2) = 2, every other mode 0; nothing else is written. -/
def Obligations.XhmValue : Prop :=
  ∀ (mode : Byte) (s : State), ∃ x : Byte,
    exec (.xhm mode) s = .next { s with ret := .byte x } ∧
    (mode.toNat = 5 → x = 1#8) ∧ (mode.toNat = 2 → x = 2#8) ∧
    (mode.toNat ≠ 5 → mode.toNat ≠ 2 → x = 0#8)

/-! ### Frame Reader -/

/-- R113, R114: the sync hunt moves RX.STATE only; a byte skipped or missed is stored nowhere. -/
def Obligations.SyncHuntMovesReaderStateOnly : Prop :=
  ∀ (b : Byte) (s : State),
    exec .rxSync1Hit s = .next { s with rx := { s.rx with state := .waitSync2 } } ∧
    exec (.rxSync1Skip b) s = .next s ∧
    exec .rxSync2Hit s = .next { s with rx := { s.rx with state := .readLength } } ∧
    exec (.rxSync2Miss b) s = .next { s with rx := { s.rx with state := .waitSync1 } }

/-- R115: RX.LEN loads RX.CNT with any byte and goes to READ_BODY; BUF is not written. -/
def Obligations.LengthByteLoadsCounter : Prop :=
  ∀ (b : Byte) (s : State),
    exec (.rxLen b) s = .next { s with rx := { s.rx with cnt := b, state := .readBody } }

/-- R116, R117 with the spec's decision D13 (guarded store, saturating index, modulo-256 count): RX.BODY
stores, advances, decrements, and on a count of 0 copies BUF[8..23] out to CFG and returns ok. The fields
`phase` and `ret` are the model's (log entries 2 and 3). -/
def Obligations.BodyByteStoredCountedAndCopiedOut : Prop :=
  ∀ (b : Byte) (s : State), ∃ (buf : Frame) (blk : Block),
    (∀ k : Fin 50, buf[k.val] = if k.val = s.rx.idx then b else s.rx.buf[k.val]) ∧
    (∀ i : Fin 16, blk[i.val] = buf[8 + i.val]) ∧
    (s.rx.cnt.toNat ≠ 1 → exec (.rxBody b) s =
      .next { s with rx := ⟨s.rx.state, s.rx.cnt - 1#8, min (s.rx.idx + 1) 50, buf⟩ }) ∧
    (s.rx.cnt.toNat = 1 → exec (.rxBody b) s =
      .next { s with rx := ⟨s.rx.state, 0#8, min (s.rx.idx + 1) 50, buf⟩,
                     cfg := blk, phase := .idle, ret := .read true })

/-- R118: RX.EMPTY ends the invocation with fail and changes nothing persistent. The fields `phase` and `ret`
are the model's (log entries 2 and 3). -/
def Obligations.EmptySourceEndsRead : Prop :=
  ∀ s : State, exec .rxEmpty s = .next { s with phase := .idle, ret := .read false }

/-- R110: an invocation of RX.READ always ends; on ok the only persistent state changed is CFG, with BUF[8..23];
on fail none is. The answers left are an end part of those there were. That it always ends rests on the finite
source (log entry 5). -/
def Obligations.ReadChangesOnlyCfg : Prop :=
  ∀ s : State, ∃ (ok : Bool) (blk : Block) (r : Reader) (left : List Answer),
    exec .rxRead s = .next { s with cfg := blk, rx := r, source := left, ret := .read ok } ∧
    (ok = true → ∀ i : Fin 16, blk[i.val] = r.buf[8 + i.val]) ∧
    (ok = false → blk = s.cfg) ∧
    left <:+ s.source

/-- R119: no reader state crosses invocations: RX.READ, and a fire, come to the same whatever the reader's transients
held. That BUF's old content never shows rests on the spec's decision D12 (R111, U7; log entry 17). -/
def Obligations.NoReaderStateCrossesInvocations : Prop :=
  ∀ (r : Reader) (now : Time) (s : State),
    exec .rxRead { s with rx := r } = exec .rxRead s ∧
    exec (.pollFire now) { s with rx := r } = exec (.pollFire now) s

/-- R120, the parser single-pass property: the first `k` bytes of a frame, fewer than 50, and then no data
fail the read, `k` bytes and the `none` being consumed and CFG unchanged, whatever would have followed. -/
def Obligations.GapBeforeLastByteFails : Prop :=
  ∀ (f : Frame) (k : Nat) (rest : List Answer) (s : State),
    f[0] = 0x7E#8 → f[1] = 0x7E#8 → f[2] = 0x2F#8 → k < 50 →
    s.source = (f.toList.take k).map some ++ none :: rest →
    ∃ r : Reader, exec .rxRead s = .next { s with rx := r, source := rest, ret := .read false }

/-- Derived in R121 to R125 with the spec's decisions D12 and D13: after any bytes other than 7E, a sync pair,
a length byte L and L body bytes (256 if L is 0), RX.READ returns ok, leaves what follows, and CFG is body
bytes 5 to 20, bytes the body does not have being 0. -/
def Obligations.ReadTakesFrameOfAnyLength : Prop :=
  ∀ (skip : List Byte) (len : Byte) (body : List Byte) (rest : List Answer) (s : State),
    (∀ b ∈ skip, b ≠ 0x7E#8) →
    body.length = (if len.toNat = 0 then 256 else len.toNat) →
    s.source = (skip ++ 0x7E#8 :: 0x7E#8 :: len :: body).map some ++ rest →
    ∃ (r : Reader) (blk : Block),
      exec .rxRead s = .next { s with cfg := blk, rx := r, source := rest, ret := .read true } ∧
      ∀ i : Fin 16, blk[i.val] = body.getD (i.val + 5) 0x00#8

/-- Derived from R112 and R113 to R118: RX.READ as one atomic operation is the run of its byte steps. From the start of
an invocation (R111), stepping takes one answer at a time, decodes it in the reader's state and runs it, and comes to
the state RX.READ gives, the phase being idle again. The stepping inside a read is the model's field `phase` (log
entry 2); that it ends rests on the finite source (log entry 5, the spec's D25). -/
def Obligations.ReadIsTheRunOfItsByteSteps : Prop :=
  ∀ s : State, s.inbox.head? ≠ some .rst → ∃ (n : Nat) (t : State),
    n ≤ s.source.length + 1 ∧
    exec .rxRead s = .next t ∧
    runSteps n { s with rx := ⟨.waitSync1, 0#8, 3, Vector.replicate 50 0#8⟩, phase := .reading }
      = .next { t with phase := .idle }

/-! ### Poll/Push Scheduler -/

/-- R130 with the spec's decision D7 (R131: the 1000 and the subtraction modulo 2^32): a tick fires iff
`(NOW - T_LAST) mod 2^32` is at least 1000; a tick that does not fire changes nothing. That a firing tick completes
rests on the finite source (log entry 5, D25). -/
def Obligations.TickFiresIffIntervalElapsed : Prop :=
  ∀ (now : Time) (s : State),
    (1000 ≤ (now.toNat + 2 ^ 32 - s.tLast.toNat) % 2 ^ 32 →
      ∃ t : State, exec (.pollFire now) s = .next t ∧ exec (.schedTick now) s = .next t) ∧
    ((now.toNat + 2 ^ 32 - s.tLast.toNat) % 2 ^ 32 < 1000 → exec (.schedTick now) s = .next s)

/-- R133, R135, R137: one poll cycle. T_LAST is stamped; the frame PEND selects is built from CFG and its 50 bytes are
sent in ascending order; PEND is cleared; then RX.READ runs. On fail AIR_ERR is 1 and nothing else happens; on ok
AIR_ERR is 0 and CFG's decode goes to SYNC.UPDATE. The stamping is the spec's decision D7 (R132), the clearing of
AIR_ERR D10 (R136), the order of the bytes D19 (all log entry 17); that it completes rests on log entry 5 (D25). -/
def Obligations.FireSendsThenReads : Prop :=
  ∀ (now : Time) (s : State), ∃ (f : Frame) (u t : State),
    FrameLayout f s.cfg (if s.pend then 0xAF#8 else 0x00#8) ∧
    exec .rxRead { s with tLast := now, txf := f, trace := s.trace ++ f.toList.map Event.tx, pend := false }
      = .next u ∧
    exec (.pollFire now) s = .next t ∧
    ((u.ret = .read false ∧ t = { u with ret := s.ret, airErr := true }) ∨
     (u.ret = .read true ∧ ∃ d : DeviceState,
        exec (.cfgDec u.cfg) u = .next { u with ret := .device d } ∧
        exec (.syncUpdate d) { u with ret := s.ret, airErr := false } = .next t))

/-- R18, R135: set-or-query is a one-shot. A fire with PEND 1 sends the 50 bytes of a set frame of CFG and leaves PEND 0,
whatever its read does; every fire with PEND 0 sends those of a query frame and leaves PEND 0; and no operation but a
command takes PEND from 0. So after the set frame every fire sends a query frame until another command. The order of
the bytes is the spec's decision D19 (log entry 17); that a fire completes rests on log entry 5 (D25). -/
def Obligations.PendingCommandIsSentOnce : Prop :=
  (∀ (now : Time) (s : State), s.pend = true → ∃ t : State,
    exec (.pollFire now) s = .next t ∧ FrameLayout t.txf s.cfg 0xAF#8 ∧
    sentBytes t.trace = sentBytes s.trace ++ t.txf.toList ∧ t.pend = false) ∧
  (∀ (now : Time) (s : State), s.pend = false → ∃ t : State,
    exec (.pollFire now) s = .next t ∧ FrameLayout t.txf s.cfg 0x00#8 ∧
    sentBytes t.trace = sentBytes s.trace ++ t.txf.toList ∧ t.pend = false) ∧
  (∀ (i : Instr) (s t : State), s.pend = false → isCommand i = false → exec i s = .next t → t.pend = false)

/-- R134: every fire sends exactly one frame, a set frame if PEND is 1 and else a query frame, with the CFG of this
moment: the 50 bytes of TXF after all that was sent before. It stamps T_LAST (R132, the spec's decision D7) and
publishes at most once (R146). The order of the bytes is D19 (log entry 17); that it completes rests on log entry 5
(D25). -/
def Obligations.FireSendsExactlyOneFrame : Prop :=
  ∀ (now : Time) (s : State), ∃ t : State,
    exec (.pollFire now) s = .next t ∧ t.tLast = now ∧
    FrameLayout t.txf s.cfg (if s.pend then 0xAF#8 else 0x00#8) ∧
    sentBytes t.trace = sentBytes s.trace ++ t.txf.toList ∧
    (publishedEvents t.trace).length ≤ (publishedEvents s.trace).length + 1

/-- Derived in R181 (E3, E5): what a fire whose read fails leaves behind (T_LAST by the spec's decision D7). -/
def Obligations.FailedReadLeavesRegisters : Prop :=
  ∀ (now : Time) (s u : State), exec .rxRead s = .next u → u.ret = .read false → ∃ t : State,
    exec (.pollFire now) s = .next t ∧
    t.tLast = now ∧ t.pend = false ∧ t.airErr = true ∧ t.cfg = s.cfg ∧ t.lks = s.lks ∧
    t.source = u.source ∧ publishedEvents t.trace = publishedEvents s.trace

/-- The spec's decisions D10 and D11 (R136, R147, R185): a fire whose read completes with a block that decodes
to an invalid state keeps the block in CFG, clears AIR_ERR, and neither latches nor publishes. -/
def Obligations.InvalidReplyIsDropped : Prop :=
  ∀ (now : Time) (s u : State), exec .rxRead s = .next u → u.ret = .read true →
    isValid (decodeCfg u.cfg) = false → ∃ t : State,
    exec (.pollFire now) s = .next t ∧
    t.cfg = u.cfg ∧ t.airErr = false ∧ t.lks = s.lks ∧
    publishedEvents t.trace = publishedEvents s.trace

/-! ### State Synchronizer -/

/-- R146: SYNC.UPDATE drops a state that is not valid or that equals LKS; any other it writes to LKS and publishes whole,
with the X-HM-Mode value of its mode. The drop of an invalid state is the spec's decision D11 (R147; log entry 17). -/
def Obligations.SyncUpdateLatchesAndPublishes : Prop :=
  ∀ (d : DeviceState) (s : State),
    (isValid d = false ∨ d = s.lks → exec (.syncUpdate d) s = .next s) ∧
    (isValid d = true → d ≠ s.lks → ∃ x : Byte,
      exec (.xhm d.mode) s = .next { s with ret := .byte x } ∧
      exec (.syncUpdate d) s = .next { s with
        lks := d, trace := s.trace ++ [.pub ⟨d.mode, x, d.temp, d.fan, d.swing, d.light⟩] })

/-- Derived in R151: decoding the same block twice in a row yields no second publish. -/
def Obligations.SecondDecodeOfABlockIsSilent : Prop :=
  ∀ (blk : Block) (s : State), ∃ (d : DeviceState) (t : State),
    exec (.cfgDec blk) s = .next { s with ret := .device d } ∧
    exec (.syncUpdate d) s = .next t ∧ exec (.syncUpdate d) t = .next t

/-! ### Command Router -/

/-- R157, R159, R160, R164, R165: with LKS valid (R16, an invariant: `StepKeepsInv`), CMD.MODE, CMD.TEMP and
CMD.FAN are accepted iff the value is in range; accepted, they encode LKS with that one field changed into
CFG and set PEND; otherwise nothing at all changes. -/
def Obligations.NumericCommandsAcceptedIffInRange : Prop :=
  ∀ (v : Byte) (s : State), isValid s.lks = true →
    (v.toNat ≤ 5 → ∃ blk : Block,
      exec (.cfgEnc { s.lks with mode := v }) s = .next { s with cfg := blk } ∧
      exec (.cmdMode v) s = .next { s with cfg := blk, pend := true }) ∧
    (5 < v.toNat → exec (.cmdMode v) s = .next s) ∧
    (16 ≤ v.toNat ∧ v.toNat ≤ 30 → ∃ blk : Block,
      exec (.cfgEnc { s.lks with temp := v }) s = .next { s with cfg := blk } ∧
      exec (.cmdTemp v) s = .next { s with cfg := blk, pend := true }) ∧
    (v.toNat < 16 ∨ 30 < v.toNat → exec (.cmdTemp v) s = .next s) ∧
    (v.toNat ≤ 5 → ∃ blk : Block,
      exec (.cfgEnc { s.lks with fan := v }) s = .next { s with cfg := blk } ∧
      exec (.cmdFan v) s = .next { s with cfg := blk, pend := true }) ∧
    (5 < v.toNat → exec (.cmdFan v) s = .next s)

/-- R158: with LKS valid, CMD.XHM is never discarded; 1 commands mode 5, 2 mode 2, any other value mode 0, the
other four fields being LKS's. -/
def Obligations.XhmCommandAlwaysAccepted : Prop :=
  ∀ (v : Byte) (s : State), isValid s.lks = true → ∃ blk : Block,
    exec (.cfgEnc { s.lks with
      mode := if v.toNat = 1 then 5#8 else if v.toNat = 2 then 2#8 else 0#8 }) s = .next { s with cfg := blk } ∧
    exec (.cmdXhm v) s = .next { s with cfg := blk, pend := true }

/-- The spec's decision D16 (R161, R162): with LKS valid, CMD.SWING and CMD.LIGHT are always accepted; the
field becomes 1 for every value but 0. -/
def Obligations.BooleanCommandsAlwaysAccepted : Prop :=
  ∀ (v : Byte) (s : State), isValid s.lks = true →
    (∃ blk : Block,
      exec (.cfgEnc { s.lks with swing := !decide (v.toNat = 0) }) s = .next { s with cfg := blk } ∧
      exec (.cmdSwing v) s = .next { s with cfg := blk, pend := true }) ∧
    (∃ blk : Block,
      exec (.cfgEnc { s.lks with light := !decide (v.toNat = 0) }) s = .next { s with cfg := blk } ∧
      exec (.cmdLight v) s = .next { s with cfg := blk, pend := true })

/-- R72: `CMD XHM 1` has exactly the effect of `CMD Mode 5`, `CMD XHM 2` that of `CMD Mode 2`, and `CMD XHM v`
for every other v that of `CMD Mode 0`, in every state. -/
def Obligations.XhmCommandIsAModeCommand : Prop :=
  ∀ s : State,
    exec (.cmdXhm 1#8) s = exec (.cmdMode 5#8) s ∧
    exec (.cmdXhm 2#8) s = exec (.cmdMode 2#8) s ∧
    ∀ v : Byte, v.toNat ≠ 1 → v.toNat ≠ 2 → exec (.cmdXhm v) s = exec (.cmdMode 0#8) s

/-- The spec's decision D14 (R166): CMD.RSVD has no effect whatever, for both selectors and every value. -/
def Obligations.ReservedSelectorHasNoEffect : Prop :=
  ∀ (sel : Bool) (v : Byte) (s : State), exec (.cmdRsvd sel v) s = .next s

/-- R169, with R164 and R165: a command writes CFG and PEND and nothing else; LKS is never written, nothing is
sent and nothing published. It leaves PEND set or as it was. -/
def Obligations.CommandsWriteOnlyCfgAndPend : Prop :=
  ∀ (i : Instr) (s : State), isCommand i = true → ∃ (blk : Block) (p : Bool),
    exec i s = .next { s with cfg := blk, pend := p } ∧
    (p = true ∨ p = s.pend) ∧
    ∀ k : Fin 16, reservedByte k.val = true → blk[k.val] = s.cfg[k.val]

/-- Derived in R171: a second command with no state change in between overrides the first: it comes to what it
would have come to alone, unless it is discarded. -/
def Obligations.SecondCommandOverridesTheFirst : Prop :=
  ∀ (i j : Instr) (s t u v : State), isCommand i = true → isCommand j = true →
    exec i s = .next t → exec j t = .next u → exec j s = .next v →
    u = v ∨ (u = t ∧ v = s)

/-! ### Reset -/

/-- The spec's decision D8 (R33, R192) and log entry 14: RESET gives the five persistent registers their reset
values and abandons an operation in progress; the receive source, what was sent and what was published stay. -/
def Obligations.ResetRestoresRegisters : Prop :=
  ∀ s : State, ∃ t : State, exec .reset s = .next t ∧
    (∀ k : Fin 16, t.cfg[k.val] = 0x00#8) ∧ t.lks = ⟨0#8, 16#8, 0#8, false, false⟩ ∧
    t.pend = false ∧ t.airErr = false ∧ t.tLast = 0#32 ∧ t.phase = .idle ∧
    t.source = s.source ∧ t.trace = s.trace ∧ t.inbox = s.inbox

/-- Derived in R193: right after reset CFG decodes to LKS. -/
def Obligations.ResetBlockDecodesToLks : Prop :=
  ∃ t : State, exec (.cfgDec State.reset.cfg) State.reset = .next t ∧ t.ret = .device State.reset.lks

/-! ### Steps -/

/-- The model's sequencing (log entries 2, 4, 6, 11, 14; R23, R44, R71, R192): a step runs the decoded operation on the
state without what was presented. A waiting reset goes first; at level 1 the next command or tick is taken, a tick's
answers being put behind the bytes left over; inside RX.READ the next answer; with nothing presented the block idles.
A selected FRAME50 pattern that decodes is run and the phase is idle; one that does not is refused by the decoder's
reason (log entry 11). -/
def Obligations.StepRunsThePresentedOperation : Prop :=
  ∀ s : State,
    (∀ rest, s.inbox = .rst :: rest → step s = exec .reset { s with inbox := rest }) ∧
    (∀ w rest, s.phase = .idle → s.inbox = .cmd w :: rest →
      step s = exec (decodeCmdw w) { s with inbox := rest }) ∧
    (∀ now rx rest, s.phase = .idle → s.inbox = .tick now rx :: rest →
      step s = exec (.schedTick now)
        { s with inbox := rest, source := s.source.filter Option.isSome ++ rx }) ∧
    (s.phase = .idle → s.inbox = [] → step s = .next s) ∧
    (∀ b rest, s.phase = .reading → s.inbox.head? ≠ some .rst → s.source = some b :: rest →
      step s = exec (decodeRxByte s.rx.state b) { s with source := rest }) ∧
    (∀ rest, s.phase = .reading → s.inbox.head? ≠ some .rst → s.source = none :: rest →
      step s = exec .rxEmpty { s with source := rest }) ∧
    (s.phase = .reading → s.inbox.head? ≠ some .rst → s.source = [] → step s = exec .rxEmpty s) ∧
    (∀ bytes i, s.phase = .building bytes → s.inbox.head? ≠ some .rst → decode (.frame50 bytes) = .ok i →
      step s = exec i { s with phase := .idle }) ∧
    (∀ bytes err, s.phase = .building bytes → s.inbox.head? ≠ some .rst →
      decode (.frame50 bytes) = .error err → step s = .refused (.undecodable err))

/-- R44: a step at level 1 takes one stimulus, applies its rule completely, and leaves the block ready for the next: it
always has a next state, in which exactly that stimulus is gone and no operation is in progress. That it always has
one rests on the finite source (log entry 5, D25); `phase` and `inbox` are the model's fields (log entries 2, 4). -/
def Obligations.StepTakesOneStimulusWhole : Prop :=
  ∀ s : State, s.phase = .idle → ∃ t : State,
    step s = .next t ∧ t.phase = .idle ∧ t.inbox = s.inbox.tail

/-- The model's placing of a table word (log entries 4, 8, 11): from every state, a word that decodes to an instruction is
the one the next step runs, and a word that does not is refused. The placing changes no register and no output; a
placed received byte meets RX.CNT, RX.IDX and BUF as they stood (log entry 8). -/
def Obligations.PlacedWordRunsNext : Prop :=
  ∀ (nbits w : Nat) (s : State),
    (∀ i, decodeTableWord nbits w = some i → ∃ s1 : State,
      step (s.withFetchWord nbits w) = exec i s1 ∧
      s1.cfg = s.cfg ∧ s1.lks = s.lks ∧ s1.pend = s.pend ∧ s1.airErr = s.airErr ∧ s1.tLast = s.tLast ∧
      s1.rx.cnt = s.rx.cnt ∧ s1.rx.idx = s.rx.idx ∧ s1.rx.buf = s.rx.buf ∧
      s1.txf = s.txf ∧ s1.trace = s.trace ∧ s1.ret = s.ret) ∧
    (decodeTableWord nbits w = none → ∃ err : DecodeError,
      step (s.withFetchWord nbits w) = .refused (.undecodable err))

/-! ### Encodings -/

/-- Decode and encode agree for every well-formed operation that has an encoding (R52, R62, R63, R73). -/
def Obligations.DecodeEncodeAgree : Prop :=
  ∀ (i : Instr) (e : Encoded), wellFormed i = true → encode i = some e → decode e = .ok i

/-- And the other way: a CMDW word, a reader answer, a tick and the reset input are the encoding of what they
decode to; so no bit of a command word is dropped. -/
def Obligations.EncodeDecodeAgree : Prop :=
  (∀ w : BitVec 11, encode (decodeCmdw w) = some (.cmdw w)) ∧
  (∀ (st : RxState) (b : Byte), encode (decodeRxByte st b) = some (.rxbyte st (some b))) ∧
  (∀ now : Time, decode (.tick now) = .ok (.schedTick now) ∧ encode (.schedTick now) = some (.tick now)) ∧
  (decode .rst = .ok .reset ∧ encode .reset = some .rst)

/-- A few table words with the operations they decode to (R62, R63, R73; examples of `95_test_vectors.md`). The widths of
table words and the reading of an 8-bit word in WAIT_SYNC1 are the model's choices (log entries 9 and 10); the command
word is the spec's decision D14. -/
def Obligations.SampleWordsDecode : Prop :=
  decodeTableWord 16 0x002 = some (.cmdMode 2#8) ∧
  decodeTableWord 16 0x101 = some (.cmdXhm 1#8) ∧
  decodeTableWord 16 0x219 = some (.cmdTemp 25#8) ∧
  decodeTableWord 16 0x303 = some (.cmdFan 3#8) ∧
  decodeTableWord 16 0x401 = some (.cmdSwing 1#8) ∧
  decodeTableWord 16 0x5C8 = some (.cmdLight 200#8) ∧
  decodeTableWord 16 0x7FF = some (.cmdRsvd true 255#8) ∧
  decodeTableWord 8 0x7E = some .rxSync1Hit ∧
  decodeTableWord 32 1000 = some (.schedTick 1000#32)

/-! ### The whole machine -/

/-- R16, R103, R86, R11: the invariant is kept by every step, from every state that has it. -/
def Obligations.StepKeepsInv : Prop :=
  ∀ s t : State, MachineInv s → step s = .next t → MachineInv t

/-- The invariant holds right after reset, whose values are the spec's decision D8 (and log entry 13). -/
def Obligations.ResetHasInv : Prop := MachineInv State.reset

/-- "Only valid states may be encoded or published": from the invariant with PEND 1, the 50 bytes a fire sends are a set
frame whose block is an encoding of a valid state. The order of the bytes is D19 (log entry 17); that the fire
completes rests on log entry 5 (D25). -/
def Obligations.SetFrameCarriesAValidState : Prop :=
  ∀ (now : Time) (s : State), MachineInv s → s.pend = true → ∃ t : State,
    exec (.pollFire now) s = .next t ∧ t.txf[7] = 0xAF#8 ∧
    sentBytes t.trace = sentBytes s.trace ++ t.txf.toList ∧
    isValid (decodeCfg (extractBlock t.txf)) = true

/-- R172 (the spec's decision D23): every well-formed operation has a next state, in every state; no failure stops the
block. That RX.READ and a fire have one rests on the finite source (log entry 5, D25, U12), without which the block
can hang. -/
def Obligations.WellFormedOperationsComplete : Prop :=
  ∀ (i : Instr) (s : State), wellFormed i = true → ∃ t : State, exec i s = .next t

/-- R153, R16: LKS is written by SYNC.UPDATE, by itself or inside a fire, and by reset, and by nothing else;
and what SYNC.UPDATE writes is a valid state. The reset clause is the spec's decision D8. -/
def Obligations.LksWrittenOnlyBySyncAndReset : Prop :=
  ∀ (i : Instr) (s t : State), exec i s = .next t → t.lks ≠ s.lks →
    i = .reset ∨ ((isSync i = true ∨ isFire i = true) ∧ isValid t.lks = true)

/-- R18: PEND is set only by a command, and a command that sets it has just encoded a valid state into CFG; it
is cleared only by a fire, or by reset (R192, the spec's decision D8). -/
def Obligations.PendSetByCommandsClearedByFires : Prop :=
  ∀ (i : Instr) (s t : State), exec i s = .next t →
    (s.pend = false → t.pend = true → isCommand i = true ∧ isValid (decodeCfg t.cfg) = true) ∧
    (s.pend = true → t.pend = false → isFire i = true ∨ i = .reset)

/-- R21, R22, R178 (the spec's decisions D10, D21): T_LAST and AIR_ERR are written only by a fire or by
reset (D8). -/
def Obligations.FireRegistersWrittenOnlyByFires : Prop :=
  ∀ (i : Instr) (s t : State), exec i s = .next t →
    t.tLast ≠ s.tLast ∨ t.airErr ≠ s.airErr → isFire i = true ∨ i = .reset

/-- R15: no operation but the whole-block overwrite of a completed read (R117), by itself or inside a fire, or
reset (R192, the spec's decision D8), changes a reserved byte of CFG. -/
def Obligations.ReservedBytesRoundTrip : Prop :=
  ∀ (i : Instr) (s t : State) (k : Fin 16), exec i s = .next t → reservedByte k.val = true →
    t.cfg[k.val] ≠ s.cfg[k.val] → isCopyOut i = true ∨ isFire i = true ∨ i = .reset

/-- Derived in R152: a publish comes only from SYNC.UPDATE, by itself or inside a fire, only with a change of
LKS, and it carries the new LKS whole; there is one at most. -/
def Obligations.PublishOnlyOnChangeOfLks : Prop :=
  ∀ (i : Instr) (s t : State), exec i s = .next t →
    publishedEvents t.trace = publishedEvents s.trace ∨
    ((isSync i = true ∨ isFire i = true) ∧ isValid t.lks = true ∧ t.lks ≠ s.lks ∧
      publishedEvents t.trace = publishedEvents s.trace ++ [publishedOf t.lks])

/-- R28: what was sent and published is never taken back; and only a fire sends (R134). -/
def Obligations.TraceOnlyGrows : Prop :=
  ∀ (i : Instr) (s t : State), exec i s = .next t →
    s.trace <+: t.trace ∧ (sentBytes t.trace ≠ sentBytes s.trace → isFire i = true)

/-! ### The host's side -/

/-- R184: the aggregate status takes transport before bus before device before ok. -/
def Obligations.StatusPrecedence : Prop :=
  ∀ (busDown : Bool) (s : State),
    statusOf true busDown s = .transport ∧
    statusOf false true s = .bus ∧
    (s.airErr = true → statusOf false false s = .device) ∧
    (s.airErr = false → statusOf false false s = .ok)

/-- The spec's decision D6 (R62, R170): a host integer that fits 8 bits is presented as it is, any other as 255. -/
def Obligations.HostValueSaturates : Prop :=
  ∀ n : Int, (0 ≤ n → n ≤ 255 → ((presentValue n).toNat : Int) = n) ∧
    (n < 0 ∨ 255 < n → (presentValue n).toNat = 255)

/-! ### Frame patterns -/

/-- R54, R73 with log entry 11: a FRAME50 pattern selects FRAME.SET or FRAME.QUERY by its offsets 0 to 7 alone, the
other 42 bytes being data; bytes that are not 50, or whose offsets 0 to 7 match neither row, are rejected. -/
def Obligations.FramePatternsDecodeByOffsets0To7 : Prop :=
  ∀ bytes : List Byte,
    (MatchesFrameRow bytes 0xAF#8 → decode (.frame50 bytes) = .ok .frameSet) ∧
    (MatchesFrameRow bytes 0x00#8 → decode (.frame50 bytes) = .ok .frameQuery) ∧
    (¬ MatchesFrameRow bytes 0xAF#8 → ¬ MatchesFrameRow bytes 0x00#8 →
      ∃ err : DecodeError, decode (.frame50 bytes) = .error err)
end

