-- ==== Sys2Proof/Laws/State.lean ====
section
/-! SUPPORT. What each named update of State leaves in each field: one lemma per field per update, so that no later
proof unfolds a record update. -/

namespace Sys2Proof.Machine

section setPendFields

@[simp] theorem setPend_cfg (s : State) : (setPend s).cfg = s.cfg := rfl
@[simp] theorem setPend_lks (s : State) : (setPend s).lks = s.lks := rfl
@[simp] theorem setPend_pend (s : State) : (setPend s).pend = true := rfl
@[simp] theorem setPend_airErr (s : State) : (setPend s).airErr = s.airErr := rfl
@[simp] theorem setPend_tLast (s : State) : (setPend s).tLast = s.tLast := rfl
@[simp] theorem setPend_rx (s : State) : (setPend s).rx = s.rx := rfl
@[simp] theorem setPend_txf (s : State) : (setPend s).txf = s.txf := rfl
@[simp] theorem setPend_inbox (s : State) : (setPend s).inbox = s.inbox := rfl
@[simp] theorem setPend_source (s : State) : (setPend s).source = s.source := rfl
@[simp] theorem setPend_trace (s : State) : (setPend s).trace = s.trace := rfl
@[simp] theorem setPend_phase (s : State) : (setPend s).phase = s.phase := rfl
@[simp] theorem setPend_ret (s : State) : (setPend s).ret = s.ret := rfl
end setPendFields

section clearPendFields

@[simp] theorem clearPend_cfg (s : State) : (clearPend s).cfg = s.cfg := rfl
@[simp] theorem clearPend_lks (s : State) : (clearPend s).lks = s.lks := rfl
@[simp] theorem clearPend_pend (s : State) : (clearPend s).pend = false := rfl
@[simp] theorem clearPend_airErr (s : State) : (clearPend s).airErr = s.airErr := rfl
@[simp] theorem clearPend_tLast (s : State) : (clearPend s).tLast = s.tLast := rfl
@[simp] theorem clearPend_rx (s : State) : (clearPend s).rx = s.rx := rfl
@[simp] theorem clearPend_txf (s : State) : (clearPend s).txf = s.txf := rfl
@[simp] theorem clearPend_inbox (s : State) : (clearPend s).inbox = s.inbox := rfl
@[simp] theorem clearPend_source (s : State) : (clearPend s).source = s.source := rfl
@[simp] theorem clearPend_trace (s : State) : (clearPend s).trace = s.trace := rfl
@[simp] theorem clearPend_phase (s : State) : (clearPend s).phase = s.phase := rfl
@[simp] theorem clearPend_ret (s : State) : (clearPend s).ret = s.ret := rfl
end clearPendFields

section recordReadFields

@[simp] theorem recordRead_cfg (ok : Bool) (s : State) : (recordRead ok s).cfg = s.cfg := rfl
@[simp] theorem recordRead_lks (ok : Bool) (s : State) : (recordRead ok s).lks = s.lks := rfl
@[simp] theorem recordRead_pend (ok : Bool) (s : State) : (recordRead ok s).pend = s.pend := rfl
@[simp] theorem recordRead_airErr (ok : Bool) (s : State) : (recordRead ok s).airErr = !ok := rfl
@[simp] theorem recordRead_tLast (ok : Bool) (s : State) : (recordRead ok s).tLast = s.tLast := rfl
@[simp] theorem recordRead_rx (ok : Bool) (s : State) : (recordRead ok s).rx = s.rx := rfl
@[simp] theorem recordRead_txf (ok : Bool) (s : State) : (recordRead ok s).txf = s.txf := rfl
@[simp] theorem recordRead_inbox (ok : Bool) (s : State) : (recordRead ok s).inbox = s.inbox := rfl
@[simp] theorem recordRead_source (ok : Bool) (s : State) : (recordRead ok s).source = s.source := rfl
@[simp] theorem recordRead_trace (ok : Bool) (s : State) : (recordRead ok s).trace = s.trace := rfl
@[simp] theorem recordRead_phase (ok : Bool) (s : State) : (recordRead ok s).phase = s.phase := rfl
@[simp] theorem recordRead_ret (ok : Bool) (s : State) : (recordRead ok s).ret = s.ret := rfl
end recordReadFields

section writeCfgFields

@[simp] theorem writeCfg_cfg (c : Block) (s : State) : (writeCfg c s).cfg = c := rfl
@[simp] theorem writeCfg_lks (c : Block) (s : State) : (writeCfg c s).lks = s.lks := rfl
@[simp] theorem writeCfg_pend (c : Block) (s : State) : (writeCfg c s).pend = s.pend := rfl
@[simp] theorem writeCfg_airErr (c : Block) (s : State) : (writeCfg c s).airErr = s.airErr := rfl
@[simp] theorem writeCfg_tLast (c : Block) (s : State) : (writeCfg c s).tLast = s.tLast := rfl
@[simp] theorem writeCfg_rx (c : Block) (s : State) : (writeCfg c s).rx = s.rx := rfl
@[simp] theorem writeCfg_txf (c : Block) (s : State) : (writeCfg c s).txf = s.txf := rfl
@[simp] theorem writeCfg_inbox (c : Block) (s : State) : (writeCfg c s).inbox = s.inbox := rfl
@[simp] theorem writeCfg_source (c : Block) (s : State) : (writeCfg c s).source = s.source := rfl
@[simp] theorem writeCfg_trace (c : Block) (s : State) : (writeCfg c s).trace = s.trace := rfl
@[simp] theorem writeCfg_phase (c : Block) (s : State) : (writeCfg c s).phase = s.phase := rfl
@[simp] theorem writeCfg_ret (c : Block) (s : State) : (writeCfg c s).ret = s.ret := rfl
end writeCfgFields

section writeLksFields

@[simp] theorem writeLks_cfg (d : DeviceState) (s : State) : (writeLks d s).cfg = s.cfg := rfl
@[simp] theorem writeLks_lks (d : DeviceState) (s : State) : (writeLks d s).lks = d := rfl
@[simp] theorem writeLks_pend (d : DeviceState) (s : State) : (writeLks d s).pend = s.pend := rfl
@[simp] theorem writeLks_airErr (d : DeviceState) (s : State) : (writeLks d s).airErr = s.airErr := rfl
@[simp] theorem writeLks_tLast (d : DeviceState) (s : State) : (writeLks d s).tLast = s.tLast := rfl
@[simp] theorem writeLks_rx (d : DeviceState) (s : State) : (writeLks d s).rx = s.rx := rfl
@[simp] theorem writeLks_txf (d : DeviceState) (s : State) : (writeLks d s).txf = s.txf := rfl
@[simp] theorem writeLks_inbox (d : DeviceState) (s : State) : (writeLks d s).inbox = s.inbox := rfl
@[simp] theorem writeLks_source (d : DeviceState) (s : State) : (writeLks d s).source = s.source := rfl
@[simp] theorem writeLks_trace (d : DeviceState) (s : State) : (writeLks d s).trace = s.trace := rfl
@[simp] theorem writeLks_phase (d : DeviceState) (s : State) : (writeLks d s).phase = s.phase := rfl
@[simp] theorem writeLks_ret (d : DeviceState) (s : State) : (writeLks d s).ret = s.ret := rfl
end writeLksFields

section writeTLastFields

@[simp] theorem writeTLast_cfg (now : Time) (s : State) : (writeTLast now s).cfg = s.cfg := rfl
@[simp] theorem writeTLast_lks (now : Time) (s : State) : (writeTLast now s).lks = s.lks := rfl
@[simp] theorem writeTLast_pend (now : Time) (s : State) : (writeTLast now s).pend = s.pend := rfl
@[simp] theorem writeTLast_airErr (now : Time) (s : State) : (writeTLast now s).airErr = s.airErr := rfl
@[simp] theorem writeTLast_tLast (now : Time) (s : State) : (writeTLast now s).tLast = now := rfl
@[simp] theorem writeTLast_rx (now : Time) (s : State) : (writeTLast now s).rx = s.rx := rfl
@[simp] theorem writeTLast_txf (now : Time) (s : State) : (writeTLast now s).txf = s.txf := rfl
@[simp] theorem writeTLast_inbox (now : Time) (s : State) : (writeTLast now s).inbox = s.inbox := rfl
@[simp] theorem writeTLast_source (now : Time) (s : State) : (writeTLast now s).source = s.source := rfl
@[simp] theorem writeTLast_trace (now : Time) (s : State) : (writeTLast now s).trace = s.trace := rfl
@[simp] theorem writeTLast_phase (now : Time) (s : State) : (writeTLast now s).phase = s.phase := rfl
@[simp] theorem writeTLast_ret (now : Time) (s : State) : (writeTLast now s).ret = s.ret := rfl
end writeTLastFields

section writeRxFields

@[simp] theorem writeRx_cfg (r : Reader) (s : State) : (writeRx r s).cfg = s.cfg := rfl
@[simp] theorem writeRx_lks (r : Reader) (s : State) : (writeRx r s).lks = s.lks := rfl
@[simp] theorem writeRx_pend (r : Reader) (s : State) : (writeRx r s).pend = s.pend := rfl
@[simp] theorem writeRx_airErr (r : Reader) (s : State) : (writeRx r s).airErr = s.airErr := rfl
@[simp] theorem writeRx_tLast (r : Reader) (s : State) : (writeRx r s).tLast = s.tLast := rfl
@[simp] theorem writeRx_rx (r : Reader) (s : State) : (writeRx r s).rx = r := rfl
@[simp] theorem writeRx_txf (r : Reader) (s : State) : (writeRx r s).txf = s.txf := rfl
@[simp] theorem writeRx_inbox (r : Reader) (s : State) : (writeRx r s).inbox = s.inbox := rfl
@[simp] theorem writeRx_source (r : Reader) (s : State) : (writeRx r s).source = s.source := rfl
@[simp] theorem writeRx_trace (r : Reader) (s : State) : (writeRx r s).trace = s.trace := rfl
@[simp] theorem writeRx_phase (r : Reader) (s : State) : (writeRx r s).phase = s.phase := rfl
@[simp] theorem writeRx_ret (r : Reader) (s : State) : (writeRx r s).ret = s.ret := rfl
end writeRxFields

section writeTxfFields

@[simp] theorem writeTxf_cfg (f : Frame) (s : State) : (writeTxf f s).cfg = s.cfg := rfl
@[simp] theorem writeTxf_lks (f : Frame) (s : State) : (writeTxf f s).lks = s.lks := rfl
@[simp] theorem writeTxf_pend (f : Frame) (s : State) : (writeTxf f s).pend = s.pend := rfl
@[simp] theorem writeTxf_airErr (f : Frame) (s : State) : (writeTxf f s).airErr = s.airErr := rfl
@[simp] theorem writeTxf_tLast (f : Frame) (s : State) : (writeTxf f s).tLast = s.tLast := rfl
@[simp] theorem writeTxf_rx (f : Frame) (s : State) : (writeTxf f s).rx = s.rx := rfl
@[simp] theorem writeTxf_txf (f : Frame) (s : State) : (writeTxf f s).txf = f := rfl
@[simp] theorem writeTxf_inbox (f : Frame) (s : State) : (writeTxf f s).inbox = s.inbox := rfl
@[simp] theorem writeTxf_source (f : Frame) (s : State) : (writeTxf f s).source = s.source := rfl
@[simp] theorem writeTxf_trace (f : Frame) (s : State) : (writeTxf f s).trace = s.trace := rfl
@[simp] theorem writeTxf_phase (f : Frame) (s : State) : (writeTxf f s).phase = s.phase := rfl
@[simp] theorem writeTxf_ret (f : Frame) (s : State) : (writeTxf f s).ret = s.ret := rfl
end writeTxfFields

section writeSourceFields

@[simp] theorem writeSource_cfg (l : List Answer) (s : State) : (writeSource l s).cfg = s.cfg := rfl
@[simp] theorem writeSource_lks (l : List Answer) (s : State) : (writeSource l s).lks = s.lks := rfl
@[simp] theorem writeSource_pend (l : List Answer) (s : State) : (writeSource l s).pend = s.pend := rfl
@[simp] theorem writeSource_airErr (l : List Answer) (s : State) : (writeSource l s).airErr = s.airErr := rfl
@[simp] theorem writeSource_tLast (l : List Answer) (s : State) : (writeSource l s).tLast = s.tLast := rfl
@[simp] theorem writeSource_rx (l : List Answer) (s : State) : (writeSource l s).rx = s.rx := rfl
@[simp] theorem writeSource_txf (l : List Answer) (s : State) : (writeSource l s).txf = s.txf := rfl
@[simp] theorem writeSource_inbox (l : List Answer) (s : State) : (writeSource l s).inbox = s.inbox := rfl
@[simp] theorem writeSource_source (l : List Answer) (s : State) : (writeSource l s).source = l := rfl
@[simp] theorem writeSource_trace (l : List Answer) (s : State) : (writeSource l s).trace = s.trace := rfl
@[simp] theorem writeSource_phase (l : List Answer) (s : State) : (writeSource l s).phase = s.phase := rfl
@[simp] theorem writeSource_ret (l : List Answer) (s : State) : (writeSource l s).ret = s.ret := rfl
end writeSourceFields

section writeInboxFields

@[simp] theorem writeInbox_cfg (l : List Stimulus) (s : State) : (writeInbox l s).cfg = s.cfg := rfl
@[simp] theorem writeInbox_lks (l : List Stimulus) (s : State) : (writeInbox l s).lks = s.lks := rfl
@[simp] theorem writeInbox_pend (l : List Stimulus) (s : State) : (writeInbox l s).pend = s.pend := rfl
@[simp] theorem writeInbox_airErr (l : List Stimulus) (s : State) : (writeInbox l s).airErr = s.airErr := rfl
@[simp] theorem writeInbox_tLast (l : List Stimulus) (s : State) : (writeInbox l s).tLast = s.tLast := rfl
@[simp] theorem writeInbox_rx (l : List Stimulus) (s : State) : (writeInbox l s).rx = s.rx := rfl
@[simp] theorem writeInbox_txf (l : List Stimulus) (s : State) : (writeInbox l s).txf = s.txf := rfl
@[simp] theorem writeInbox_inbox (l : List Stimulus) (s : State) : (writeInbox l s).inbox = l := rfl
@[simp] theorem writeInbox_source (l : List Stimulus) (s : State) : (writeInbox l s).source = s.source := rfl
@[simp] theorem writeInbox_trace (l : List Stimulus) (s : State) : (writeInbox l s).trace = s.trace := rfl
@[simp] theorem writeInbox_phase (l : List Stimulus) (s : State) : (writeInbox l s).phase = s.phase := rfl
@[simp] theorem writeInbox_ret (l : List Stimulus) (s : State) : (writeInbox l s).ret = s.ret := rfl
end writeInboxFields

section writePhaseFields

@[simp] theorem writePhase_cfg (p : Phase) (s : State) : (writePhase p s).cfg = s.cfg := rfl
@[simp] theorem writePhase_lks (p : Phase) (s : State) : (writePhase p s).lks = s.lks := rfl
@[simp] theorem writePhase_pend (p : Phase) (s : State) : (writePhase p s).pend = s.pend := rfl
@[simp] theorem writePhase_airErr (p : Phase) (s : State) : (writePhase p s).airErr = s.airErr := rfl
@[simp] theorem writePhase_tLast (p : Phase) (s : State) : (writePhase p s).tLast = s.tLast := rfl
@[simp] theorem writePhase_rx (p : Phase) (s : State) : (writePhase p s).rx = s.rx := rfl
@[simp] theorem writePhase_txf (p : Phase) (s : State) : (writePhase p s).txf = s.txf := rfl
@[simp] theorem writePhase_inbox (p : Phase) (s : State) : (writePhase p s).inbox = s.inbox := rfl
@[simp] theorem writePhase_source (p : Phase) (s : State) : (writePhase p s).source = s.source := rfl
@[simp] theorem writePhase_trace (p : Phase) (s : State) : (writePhase p s).trace = s.trace := rfl
@[simp] theorem writePhase_phase (p : Phase) (s : State) : (writePhase p s).phase = p := rfl
@[simp] theorem writePhase_ret (p : Phase) (s : State) : (writePhase p s).ret = s.ret := rfl
end writePhaseFields

section returnsFields

@[simp] theorem returns_cfg (r : Ret) (s : State) : (returns r s).cfg = s.cfg := rfl
@[simp] theorem returns_lks (r : Ret) (s : State) : (returns r s).lks = s.lks := rfl
@[simp] theorem returns_pend (r : Ret) (s : State) : (returns r s).pend = s.pend := rfl
@[simp] theorem returns_airErr (r : Ret) (s : State) : (returns r s).airErr = s.airErr := rfl
@[simp] theorem returns_tLast (r : Ret) (s : State) : (returns r s).tLast = s.tLast := rfl
@[simp] theorem returns_rx (r : Ret) (s : State) : (returns r s).rx = s.rx := rfl
@[simp] theorem returns_txf (r : Ret) (s : State) : (returns r s).txf = s.txf := rfl
@[simp] theorem returns_inbox (r : Ret) (s : State) : (returns r s).inbox = s.inbox := rfl
@[simp] theorem returns_source (r : Ret) (s : State) : (returns r s).source = s.source := rfl
@[simp] theorem returns_trace (r : Ret) (s : State) : (returns r s).trace = s.trace := rfl
@[simp] theorem returns_phase (r : Ret) (s : State) : (returns r s).phase = s.phase := rfl
@[simp] theorem returns_ret (r : Ret) (s : State) : (returns r s).ret = r := rfl
end returnsFields

section emitFields

@[simp] theorem emit_cfg (e : Event) (s : State) : (emit e s).cfg = s.cfg := rfl
@[simp] theorem emit_lks (e : Event) (s : State) : (emit e s).lks = s.lks := rfl
@[simp] theorem emit_pend (e : Event) (s : State) : (emit e s).pend = s.pend := rfl
@[simp] theorem emit_airErr (e : Event) (s : State) : (emit e s).airErr = s.airErr := rfl
@[simp] theorem emit_tLast (e : Event) (s : State) : (emit e s).tLast = s.tLast := rfl
@[simp] theorem emit_rx (e : Event) (s : State) : (emit e s).rx = s.rx := rfl
@[simp] theorem emit_txf (e : Event) (s : State) : (emit e s).txf = s.txf := rfl
@[simp] theorem emit_inbox (e : Event) (s : State) : (emit e s).inbox = s.inbox := rfl
@[simp] theorem emit_source (e : Event) (s : State) : (emit e s).source = s.source := rfl
@[simp] theorem emit_trace (e : Event) (s : State) : (emit e s).trace = s.trace ++ [e] := rfl
@[simp] theorem emit_phase (e : Event) (s : State) : (emit e s).phase = s.phase := rfl
@[simp] theorem emit_ret (e : Event) (s : State) : (emit e s).ret = s.ret := rfl
end emitFields

section txWriteFields

@[simp] theorem txWrite_cfg (b : Byte) (s : State) : (txWrite b s).cfg = s.cfg := rfl
@[simp] theorem txWrite_lks (b : Byte) (s : State) : (txWrite b s).lks = s.lks := rfl
@[simp] theorem txWrite_pend (b : Byte) (s : State) : (txWrite b s).pend = s.pend := rfl
@[simp] theorem txWrite_airErr (b : Byte) (s : State) : (txWrite b s).airErr = s.airErr := rfl
@[simp] theorem txWrite_tLast (b : Byte) (s : State) : (txWrite b s).tLast = s.tLast := rfl
@[simp] theorem txWrite_rx (b : Byte) (s : State) : (txWrite b s).rx = s.rx := rfl
@[simp] theorem txWrite_txf (b : Byte) (s : State) : (txWrite b s).txf = s.txf := rfl
@[simp] theorem txWrite_inbox (b : Byte) (s : State) : (txWrite b s).inbox = s.inbox := rfl
@[simp] theorem txWrite_source (b : Byte) (s : State) : (txWrite b s).source = s.source := rfl
@[simp] theorem txWrite_trace (b : Byte) (s : State) : (txWrite b s).trace = s.trace ++ [.tx b] := rfl
@[simp] theorem txWrite_phase (b : Byte) (s : State) : (txWrite b s).phase = s.phase := rfl
@[simp] theorem txWrite_ret (b : Byte) (s : State) : (txWrite b s).ret = s.ret := rfl
end txWriteFields

section publishFields

@[simp] theorem publish_cfg (d : DeviceState) (s : State) : (publish d s).cfg = s.cfg := rfl
@[simp] theorem publish_lks (d : DeviceState) (s : State) : (publish d s).lks = s.lks := rfl
@[simp] theorem publish_pend (d : DeviceState) (s : State) : (publish d s).pend = s.pend := rfl
@[simp] theorem publish_airErr (d : DeviceState) (s : State) : (publish d s).airErr = s.airErr := rfl
@[simp] theorem publish_tLast (d : DeviceState) (s : State) : (publish d s).tLast = s.tLast := rfl
@[simp] theorem publish_rx (d : DeviceState) (s : State) : (publish d s).rx = s.rx := rfl
@[simp] theorem publish_txf (d : DeviceState) (s : State) : (publish d s).txf = s.txf := rfl
@[simp] theorem publish_inbox (d : DeviceState) (s : State) : (publish d s).inbox = s.inbox := rfl
@[simp] theorem publish_source (d : DeviceState) (s : State) : (publish d s).source = s.source := rfl
@[simp] theorem publish_trace (d : DeviceState) (s : State) : (publish d s).trace = s.trace ++ [.pub (publishedOf d)] := rfl
@[simp] theorem publish_phase (d : DeviceState) (s : State) : (publish d s).phase = s.phase := rfl
@[simp] theorem publish_ret (d : DeviceState) (s : State) : (publish d s).ret = s.ret := rfl
end publishFields

section buildTxfFields

@[simp] theorem buildTxf_cfg (isSet : Bool) (s : State) : (buildTxf isSet s).cfg = s.cfg := rfl
@[simp] theorem buildTxf_lks (isSet : Bool) (s : State) : (buildTxf isSet s).lks = s.lks := rfl
@[simp] theorem buildTxf_pend (isSet : Bool) (s : State) : (buildTxf isSet s).pend = s.pend := rfl
@[simp] theorem buildTxf_airErr (isSet : Bool) (s : State) : (buildTxf isSet s).airErr = s.airErr := rfl
@[simp] theorem buildTxf_tLast (isSet : Bool) (s : State) : (buildTxf isSet s).tLast = s.tLast := rfl
@[simp] theorem buildTxf_rx (isSet : Bool) (s : State) : (buildTxf isSet s).rx = s.rx := rfl
@[simp] theorem buildTxf_txf (isSet : Bool) (s : State) : (buildTxf isSet s).txf = buildFrame Config.postfixBytes s.cfg isSet := rfl
@[simp] theorem buildTxf_inbox (isSet : Bool) (s : State) : (buildTxf isSet s).inbox = s.inbox := rfl
@[simp] theorem buildTxf_source (isSet : Bool) (s : State) : (buildTxf isSet s).source = s.source := rfl
@[simp] theorem buildTxf_trace (isSet : Bool) (s : State) : (buildTxf isSet s).trace = s.trace := rfl
@[simp] theorem buildTxf_phase (isSet : Bool) (s : State) : (buildTxf isSet s).phase = s.phase := rfl
@[simp] theorem buildTxf_ret (isSet : Bool) (s : State) : (buildTxf isSet s).ret = s.ret := rfl
end buildTxfFields

section copyOutFields

@[simp] theorem copyOut_cfg (r : Reader) (s : State) : (copyOut r s).cfg = extractBlock r.buf := rfl
@[simp] theorem copyOut_lks (r : Reader) (s : State) : (copyOut r s).lks = s.lks := rfl
@[simp] theorem copyOut_pend (r : Reader) (s : State) : (copyOut r s).pend = s.pend := rfl
@[simp] theorem copyOut_airErr (r : Reader) (s : State) : (copyOut r s).airErr = s.airErr := rfl
@[simp] theorem copyOut_tLast (r : Reader) (s : State) : (copyOut r s).tLast = s.tLast := rfl
@[simp] theorem copyOut_rx (r : Reader) (s : State) : (copyOut r s).rx = s.rx := rfl
@[simp] theorem copyOut_txf (r : Reader) (s : State) : (copyOut r s).txf = s.txf := rfl
@[simp] theorem copyOut_inbox (r : Reader) (s : State) : (copyOut r s).inbox = s.inbox := rfl
@[simp] theorem copyOut_source (r : Reader) (s : State) : (copyOut r s).source = s.source := rfl
@[simp] theorem copyOut_trace (r : Reader) (s : State) : (copyOut r s).trace = s.trace := rfl
@[simp] theorem copyOut_phase (r : Reader) (s : State) : (copyOut r s).phase = s.phase := rfl
@[simp] theorem copyOut_ret (r : Reader) (s : State) : (copyOut r s).ret = s.ret := rfl
end copyOutFields

section listAnswersFields

@[simp] theorem listAnswers_cfg (rx : List Answer) (s : State) : (listAnswers rx s).cfg = s.cfg := rfl
@[simp] theorem listAnswers_lks (rx : List Answer) (s : State) : (listAnswers rx s).lks = s.lks := rfl
@[simp] theorem listAnswers_pend (rx : List Answer) (s : State) : (listAnswers rx s).pend = s.pend := rfl
@[simp] theorem listAnswers_airErr (rx : List Answer) (s : State) : (listAnswers rx s).airErr = s.airErr := rfl
@[simp] theorem listAnswers_tLast (rx : List Answer) (s : State) : (listAnswers rx s).tLast = s.tLast := rfl
@[simp] theorem listAnswers_rx (rx : List Answer) (s : State) : (listAnswers rx s).rx = s.rx := rfl
@[simp] theorem listAnswers_txf (rx : List Answer) (s : State) : (listAnswers rx s).txf = s.txf := rfl
@[simp] theorem listAnswers_inbox (rx : List Answer) (s : State) : (listAnswers rx s).inbox = s.inbox := rfl
@[simp] theorem listAnswers_source (rx : List Answer) (s : State) : (listAnswers rx s).source = leftoverBytes s.source ++ rx := rfl
@[simp] theorem listAnswers_trace (rx : List Answer) (s : State) : (listAnswers rx s).trace = s.trace := rfl
@[simp] theorem listAnswers_phase (rx : List Answer) (s : State) : (listAnswers rx s).phase = s.phase := rfl
@[simp] theorem listAnswers_ret (rx : List Answer) (s : State) : (listAnswers rx s).ret = s.ret := rfl
end listAnswersFields

section resetRegistersFields

@[simp] theorem resetRegisters_cfg (s : State) : (resetRegisters s).cfg = Vector.replicate 16 0#8 := rfl
@[simp] theorem resetRegisters_lks (s : State) : (resetRegisters s).lks = ⟨0#8, 16#8, 0#8, false, false⟩ := rfl
@[simp] theorem resetRegisters_pend (s : State) : (resetRegisters s).pend = false := rfl
@[simp] theorem resetRegisters_airErr (s : State) : (resetRegisters s).airErr = false := rfl
@[simp] theorem resetRegisters_tLast (s : State) : (resetRegisters s).tLast = 0#32 := rfl
@[simp] theorem resetRegisters_rx (s : State) : (resetRegisters s).rx = s.rx := rfl
@[simp] theorem resetRegisters_txf (s : State) : (resetRegisters s).txf = s.txf := rfl
@[simp] theorem resetRegisters_inbox (s : State) : (resetRegisters s).inbox = s.inbox := rfl
@[simp] theorem resetRegisters_source (s : State) : (resetRegisters s).source = s.source := rfl
@[simp] theorem resetRegisters_trace (s : State) : (resetRegisters s).trace = s.trace := rfl
@[simp] theorem resetRegisters_phase (s : State) : (resetRegisters s).phase = .idle := rfl
@[simp] theorem resetRegisters_ret (s : State) : (resetRegisters s).ret = s.ret := rfl
end resetRegistersFields

end Sys2Proof.Machine
end

