-- ==== Sys2Proof/Laws/Ops.lean ====
section
/-! SUPPORT. For each shared operation, what it can do, said once; the provers cite these instead of unfolding
the operations. -/

namespace Sys2Proof.Machine

/-! ### Transmit and publish -/

/-- TxWrite of a list of bytes appends them to the trace in order and does nothing else. -/
theorem txWriteAll_eq (l : List Byte) (s : State) :
    txWriteAll l s = { s with trace := s.trace ++ l.map Event.tx } := by
  induction l generalizing s with
  | nil => simp [txWriteAll]
  | cons b bs ih => simp [txWriteAll, ih, txWrite, emit]

@[simp] theorem sentBytes_append (l m : List Event) : sentBytes (l ++ m) = sentBytes l ++ sentBytes m := by
  simp [sentBytes]

@[simp] theorem publishedEvents_append (l m : List Event) :
    publishedEvents (l ++ m) = publishedEvents l ++ publishedEvents m := by
  simp [publishedEvents]

@[simp] theorem sentBytes_map_tx (l : List Byte) : sentBytes (l.map Event.tx) = l := by
  induction l with
  | nil => rfl
  | cons b bs ih => simpa only [sentBytes, List.map_cons, List.filterMap_cons, List.cons.injEq, true_and] using ih

@[simp] theorem publishedEvents_map_tx (l : List Byte) : publishedEvents (l.map Event.tx) = [] := by
  induction l with
  | nil => rfl
  | cons b bs ih => simpa only [publishedEvents, List.map_cons, List.filterMap_cons] using ih

@[simp] theorem sentBytes_pub (e : Published) : sentBytes [.pub e] = [] := rfl

@[simp] theorem publishedEvents_pub (e : Published) : publishedEvents [.pub e] = [e] := rfl

@[simp] theorem all_eventOk_map_tx (l : List Byte) : (l.map Event.tx).all eventOk = true := by
  simp [eventOk]

/-- What a valid state publishes is an event the invariant allows. -/
theorem eventOk_publishedOf (d : DeviceState) (h : isValid d = true) :
    eventOk (.pub (publishedOf d)) = true := by
  simpa [eventOk, publishedOf] using h

/-! ### Frame Codec -/

/-- Offsets 0 to 48 of a built frame are the frame map of R35. -/
theorem buildFrame_getElem (pf : Vector Byte 25) (blk : Block) (isSet : Bool) (k : Nat) (hk : k < 49) :
    (buildFrame pf blk isSet)[k] = frameByte pf blk isSet ⟨k, by omega⟩ := by
  have h : (49 : Nat) ≠ k := by omega
  simp [buildFrame, h]

/-- CHECKSUM reads offsets 2 to 47 only. -/
theorem sumBytes_congr_take (f g : Frame) (h : ∀ k (hk : k < 50), 2 ≤ k → k < 48 → f[k] = g[k]) :
    (f.toList.drop 2).take 46 = (g.toList.drop 2).take 46 := by
  apply List.ext_getElem
  · simp
  · intro i h1 h2
    have : i < 46 := by simp at h1; omega
    simpa using h (2 + i) (by omega) (by omega) (by omega)

theorem checksum_congr (f g : Frame) (h : ∀ k (hk : k < 50), 2 ≤ k → k < 48 → f[k] = g[k]) :
    checksum f = checksum g := by
  unfold checksum
  rw [sumBytes_congr_take f g h]

/-- Offset 49 of a built frame is the checksum of the frame itself (R84). -/
theorem buildFrame_checksum (pf : Vector Byte 25) (blk : Block) (isSet : Bool) :
    (buildFrame pf blk isSet)[49] = checksum (buildFrame pf blk isSet) := by
  have h1 : (buildFrame pf blk isSet)[49] = checksum (Vector.ofFn (frameByte pf blk isSet)) := by
    simp [buildFrame]
  rw [h1]
  apply checksum_congr
  intro k hk h2 h48
  have h : (49 : Nat) ≠ k := by omega
  simp [buildFrame, h]

@[simp] theorem extractBlock_getElem (f : Frame) (i : Nat) (hi : i < 16) :
    (extractBlock f)[i] = f[8 + i] := by
  simp [extractBlock]

/-! ### Bit-Packer -/

@[simp] theorem encodeCfg_get0 (d : DeviceState) (blk : Block) : (encodeCfg d blk)[0] = encByte0 d := by
  simp [encodeCfg]

@[simp] theorem encodeCfg_get1 (d : DeviceState) (blk : Block) :
    (encodeCfg d blk)[1] = encByte1 d blk[1] := by
  simp [encodeCfg]

@[simp] theorem encodeCfg_get2 (d : DeviceState) (blk : Block) :
    (encodeCfg d blk)[2] = encByte2 d blk[2] := by
  simp [encodeCfg]

@[simp] theorem encodeCfg_get4 (d : DeviceState) (blk : Block) : (encodeCfg d blk)[4] = encByte4 d := by
  simp [encodeCfg]

@[simp] theorem encodeCfg_get14 (d : DeviceState) (blk : Block) : (encodeCfg d blk)[14] = encByte14 d := by
  simp [encodeCfg]

/-- Every byte CFG.ENC does not target is untouched (R102). -/
theorem encodeCfg_other (d : DeviceState) (blk : Block) (k : Nat) (hk : k < 16)
    (h0 : k ≠ 0) (h1 : k ≠ 1) (h2 : k ≠ 2) (h4 : k ≠ 4) (h14 : k ≠ 14) :
    (encodeCfg d blk)[k] = blk[k] := by
  simp [encodeCfg, Ne.symm h0, Ne.symm h1, Ne.symm h2, Ne.symm h4, Ne.symm h14]

/-- CFG.ENC answers a next state only for a valid state, and then writes CFG alone. -/
theorem encodeInto_next (d : DeviceState) (s t : State) (h : encodeInto d s = .next t) :
    isValid d = true ∧ t = writeCfg (encodeCfg d s.cfg) s := by
  unfold encodeInto at h
  split at h
  · exact ⟨‹_›, by cases h; rfl⟩
  · cases h

/-! ### Frame Reader -/

/-- One pass of the loop keeps RX.IDX in its range. -/
theorem readerByte_index (b : Byte) (r : Reader) (h : readerIndexOk r = true) :
    readerIndexOk (readerByte b r).1 = true := by
  simp only [readerIndexOk, Bool.and_eq_true, decide_eq_true_eq] at h ⊢
  unfold readerByte
  split
  · split <;> simpa [readerGoto] using h
  · simpa [readerGoto] using h
  · simpa [readerLen] using h
  · simp only [readerBody]; omega

/-- The loop keeps RX.IDX in its range. -/
theorem readAnswers_index (l : List Answer) (r : Reader) (h : readerIndexOk r = true) :
    readerIndexOk (readAnswers l r).reader = true := by
  induction l generalizing r with
  | nil => simpa [readAnswers] using h
  | cons a rest ih =>
    cases a with
    | none => simpa [readAnswers] using h
    | some b =>
      simp only [readAnswers]
      split
      · exact readerByte_index b r h
      · exact ih _ (readerByte_index b r h)

/-- The answers a read leaves are an end part of those there were. -/
theorem readAnswers_left (l : List Answer) (r : Reader) : (readAnswers l r).left <:+ l := by
  induction l generalizing r with
  | nil => simp [readAnswers]
  | cons a rest ih =>
    cases a with
    | none => simp [readAnswers]
    | some b =>
      simp only [readAnswers]
      split
      · simp
      · exact (ih _).trans (List.suffix_cons _ _)

theorem readerInit_index : readerIndexOk readerInit = true := by decide

/-- RX.READ writes CFG, the reader's transients and the source, and nothing else. -/
theorem afterRead_eq (s : State) :
    afterRead s = { s with
      cfg := if readOk s then extractBlock (readRun s.source).reader.buf else s.cfg
      rx := (readRun s.source).reader
      source := (readRun s.source).left } := by
  unfold afterRead readOk
  cases h : (readRun s.source).ok <;> simp [h, copyOut, writeCfg, writeSource, writeRx]

/-! ### State Synchronizer -/

/-- SYNC.UPDATE either changes nothing, or latches and publishes a valid state that differs from LKS. -/
theorem synchronize_cases (d : DeviceState) (s : State) :
    ((isValid d = false ∨ d = s.lks) ∧ synchronize d s = s) ∨
    (isValid d = true ∧ d ≠ s.lks ∧
      synchronize d s = { s with lks := d, trace := s.trace ++ [.pub (publishedOf d)] }) := by
  unfold synchronize
  split
  · exact .inl ⟨.inl ‹_›, rfl⟩
  · split
    · exact .inl ⟨.inr ‹_›, rfl⟩
    · exact .inr ⟨by simpa using ‹¬isValid d = false›, ‹_›, rfl⟩

/-! ### Scheduler -/

/-- The first half of a fire writes T_LAST, TXF, the trace and PEND (R132 to R135). -/
theorem sendFrame_eq (now : Time) (s : State) :
    sendFrame now s = { s with
      tLast := now
      txf := buildFrame Config.postfixBytes s.cfg s.pend
      trace := s.trace ++ (buildFrame Config.postfixBytes s.cfg s.pend).toList.map Event.tx
      pend := false } := by
  simp only [sendFrame, txWriteAll_eq, clearPend, buildTxf, writeTxf, writeTLast]

/-- A fire: the frame is sent, the read is done, and its result decides AIR_ERR and whether the decode of the
received block goes to SYNC.UPDATE (R133). -/
theorem fire_cases (now : Time) (s : State) :
    (readOk s = false ∧
      fire now s = { afterRead (sendFrame now s) with airErr := true }) ∨
    (readOk s = true ∧
      fire now s = synchronize (decodeCfg (afterRead (sendFrame now s)).cfg)
        { afterRead (sendFrame now s) with airErr := false }) := by
  have hs : readOk (sendFrame now s) = readOk s := by simp only [readOk, sendFrame_eq]
  cases h : readOk s with
  | false => exact .inl ⟨rfl, by simp [fire, hs, h, finishFire, recordRead]⟩
  | true => exact .inr ⟨rfl, by simp [fire, hs, h, finishFire, recordRead]⟩

/-! ### Command Router -/

/-- A command either changes nothing, its candidate being invalid, or encodes it and sets PEND (R164, R165). -/
theorem routeCommand_cases (c : DeviceState) (s : State) :
    (isValid c = false ∧ routeCommand c s = s) ∨
    (isValid c = true ∧ routeCommand c s = { s with cfg := encodeCfg c s.cfg, pend := true }) := by
  unfold routeCommand
  split
  · exact .inr ⟨‹_›, rfl⟩
  · exact .inl ⟨by simpa using ‹¬isValid c = true›, rfl⟩

/-! ### Runs -/

@[simp] theorem runSteps_zero (s : State) : runSteps 0 s = .next s := rfl

theorem runSteps_succ (k : Nat) (s t : State) (h : step s = .next t) :
    runSteps (k + 1) s = runSteps k t := by
  simp only [runSteps, h]

end Sys2Proof.Machine
end

