-- ==== Sys2Proof/Laws/PerInstr.lean ====
section
/-! SUPPORT. The statement about every instruction as syntax: an operation that has an encoding is what its
encoding decodes to, one lemma per constructor of Instr. -/

namespace Sys2Proof.Laws

open Sys2Proof

/-- A well-formed operation with an encoding is decoded from it. -/
def EncodeDecode.Statement (i : Instr) : Prop :=
  ∀ e : Encoded, wellFormed i = true → encode i = some e → decode e = .ok i

/-- `val` is bits 7 to 0 of the command word it is put into (R62). -/
theorem cmdWord_val (ctl : BitVec 3) (v : Byte) : (Machine.cmdWord ctl v).extractLsb' 0 8 = v := by
  apply BitVec.eq_of_getLsbD_eq
  intro i hi
  simp only [BitVec.getLsbD_extractLsb', Machine.cmdWord, BitVec.getLsbD_append]
  simp [hi]

/-- `ctl` is bits 10 to 8 of the command word it is put into (R62). -/
theorem cmdWord_ctl (ctl : BitVec 3) (v : Byte) : (Machine.cmdWord ctl v).extractLsb' 8 3 = ctl := by
  apply BitVec.eq_of_getLsbD_eq
  intro i hi
  simp only [BitVec.getLsbD_extractLsb', Machine.cmdWord, BitVec.getLsbD_append]
  simp [hi]

/-- Bit 8 of a command word is the low bit of `ctl` (R73, the letter s). -/
theorem cmdWord_bit8 (ctl : BitVec 3) (v : Byte) : (Machine.cmdWord ctl v).getLsbD 8 = ctl.getLsbD 0 := by
  simp only [Machine.cmdWord, BitVec.getLsbD_append]
  simp

/-- The decoder on an encoded command word, in terms of the two fields. -/
theorem decode_encodeCmdw (ctl : BitVec 3) (v : Byte) :
    decode (encodeCmdw ctl v) = .ok (match ctl with
      | 0#3 => .cmdMode v
      | 1#3 => .cmdXhm v
      | 2#3 => .cmdTemp v
      | 3#3 => .cmdFan v
      | 4#3 => .cmdSwing v
      | 5#3 => .cmdLight v
      | _   => .cmdRsvd (ctl.getLsbD 0) v) := by
  show Except.ok (decodeCmdw (Machine.cmdWord ctl v)) = _
  simp only [decodeCmdw, cmdWord_val, cmdWord_ctl, cmdWord_bit8] <;> rfl

theorem EncodeDecode.checksum (f : Frame) : EncodeDecode.Statement (.checksum f) := by
  intro e _ h
  cases h

theorem EncodeDecode.frameQuery : EncodeDecode.Statement .frameQuery := by
  intro e _ h
  cases h
  decide

theorem EncodeDecode.frameSet : EncodeDecode.Statement .frameSet := by
  intro e _ h
  cases h
  decide

theorem EncodeDecode.frameExtract (f : Frame) : EncodeDecode.Statement (.frameExtract f) := by
  intro e _ h
  cases h

theorem EncodeDecode.isValid (d : DeviceState) : EncodeDecode.Statement (.isValid d) := by
  intro e _ h
  cases h

theorem EncodeDecode.fanq (f : Byte) : EncodeDecode.Statement (.fanq f) := by
  intro e _ h
  cases h

theorem EncodeDecode.cfgDec (c : Block) : EncodeDecode.Statement (.cfgDec c) := by
  intro e _ h
  cases h

theorem EncodeDecode.cfgEnc (d : DeviceState) : EncodeDecode.Statement (.cfgEnc d) := by
  intro e _ h
  cases h

theorem EncodeDecode.rxRead : EncodeDecode.Statement .rxRead := by
  intro e _ h
  cases h

theorem EncodeDecode.rxSync1Hit : EncodeDecode.Statement .rxSync1Hit := by
  intro e _ h
  cases h
  rfl

theorem EncodeDecode.rxSync1Skip (b : Byte) : EncodeDecode.Statement (.rxSync1Skip b) := by
  intro e hw h
  cases h
  have hb : b ≠ Config.sync := of_decide_eq_true hw
  simp [decode, decodeRxByte, hb]

theorem EncodeDecode.rxSync2Hit : EncodeDecode.Statement .rxSync2Hit := by
  intro e _ h
  cases h
  rfl

theorem EncodeDecode.rxSync2Miss (b : Byte) : EncodeDecode.Statement (.rxSync2Miss b) := by
  intro e hw h
  cases h
  have hb : b ≠ Config.sync := of_decide_eq_true hw
  simp [decode, decodeRxByte, hb]

theorem EncodeDecode.rxLen (b : Byte) : EncodeDecode.Statement (.rxLen b) := by
  intro e _ h
  cases h
  rfl

theorem EncodeDecode.rxBody (b : Byte) : EncodeDecode.Statement (.rxBody b) := by
  intro e _ h
  cases h
  rfl

theorem EncodeDecode.rxEmpty : EncodeDecode.Statement .rxEmpty := by
  intro e _ h
  cases h
  rfl

theorem EncodeDecode.schedTick (now : Time) : EncodeDecode.Statement (.schedTick now) := by
  intro e _ h
  cases h
  rfl

theorem EncodeDecode.pollFire (now : Time) : EncodeDecode.Statement (.pollFire now) := by
  intro e _ h
  cases h

theorem EncodeDecode.syncUpdate (d : DeviceState) : EncodeDecode.Statement (.syncUpdate d) := by
  intro e _ h
  cases h

theorem EncodeDecode.xhm (m : Byte) : EncodeDecode.Statement (.xhm m) := by
  intro e _ h
  cases h

theorem EncodeDecode.cmdMode (v : Byte) : EncodeDecode.Statement (.cmdMode v) := by
  intro e _ h
  cases h
  exact decode_encodeCmdw _ v

theorem EncodeDecode.cmdXhm (v : Byte) : EncodeDecode.Statement (.cmdXhm v) := by
  intro e _ h
  cases h
  exact decode_encodeCmdw _ v

theorem EncodeDecode.cmdTemp (v : Byte) : EncodeDecode.Statement (.cmdTemp v) := by
  intro e _ h
  cases h
  exact decode_encodeCmdw _ v

theorem EncodeDecode.cmdFan (v : Byte) : EncodeDecode.Statement (.cmdFan v) := by
  intro e _ h
  cases h
  exact decode_encodeCmdw _ v

theorem EncodeDecode.cmdSwing (v : Byte) : EncodeDecode.Statement (.cmdSwing v) := by
  intro e _ h
  cases h
  exact decode_encodeCmdw _ v

theorem EncodeDecode.cmdLight (v : Byte) : EncodeDecode.Statement (.cmdLight v) := by
  intro e _ h
  cases h
  exact decode_encodeCmdw _ v

theorem EncodeDecode.cmdRsvd (sel : Bool) (v : Byte) : EncodeDecode.Statement (.cmdRsvd sel v) := by
  intro e _ h
  cases h
  cases sel <;> exact decode_encodeCmdw _ v

theorem EncodeDecode.reset : EncodeDecode.Statement .reset := by
  intro e _ h
  cases h
  rfl

end Sys2Proof.Laws
end

