-- ==== Sys2Proof/Tests/Slice0.lean ====
section
/-! SUPPORT. The model's own tests. Expected values are the spec's: `95_test_vectors.md` (the section or vector
is named before each group) or the worked example of the rule cited. Then one named witness for every statement
that has hypotheses (`wit_<statement>`). -/

namespace Sys2Proof.Tests

open Sys2Proof Sys2Proof.Machine

/-! ### Helpers: the named blocks and the test postfix of `95_test_vectors.md` section 0 -/

def bytesOf (l : List Nat) : List Byte := l.map (BitVec.ofNat 8)
def blockOf (l : List Nat) : Block := Vector.ofFn fun i : Fin 16 => (bytesOf l).getD i.val 0#8
def zeroBlock : Block := blockOf []
def blkA : Block := blockOf [0xC2, 0x50, 0, 0, 0x10, 0, 0, 0, 0, 0, 0, 0, 0, 0, 0x03, 0]
def dev0 : Block := blockOf [0, 0x60, 0, 0x07, 0, 0, 0, 0, 0, 0, 0x33, 0, 0, 0, 0, 0x01]
def badBlk : Block := blockOf [0xD0, 0x90, 0x02, 0x07, 0, 0, 0, 0, 0, 0, 0x33, 0, 0, 0, 0, 0x01]
def blkP : Block :=
  blockOf [0x7F, 0xEA, 0xFD, 0x11, 0x3F, 1, 2, 3, 4, 5, 6, 7, 8, 9, 0xF5, 0xAA]
def pf0 : Vector Byte 25 := Vector.replicate 25 0#8
def pf1 : Vector Byte 25 := Vector.ofFn fun i : Fin 25 => BitVec.ofNat 8 (i.val + 1)

/-- The reply of section 2.4, F(00, B, PF1). -/
def reply (b : Block) : List Byte := (buildFrame pf1 b false).toList

/-- A state after reset with this CFG and LKS. -/
def base (cfg : Block) (lks : DeviceState) : State := { State.reset with cfg := cfg, lks := lks }

/-- A state whose source gives these bytes, CFG being sixteen 11. -/
def hearing (l : List Answer) : State :=
  { State.reset with cfg := blockOf (List.replicate 16 0x11), source := l }

/-- The outcome is a next state with this property. -/
def next (o : Host.Outcome State Fault Refusal) (p : State → Bool) : Bool :=
  match o with
  | .next t => p t
  | _ => false

/-- The next state of an outcome; the state given where there is none. -/
def after (o : Host.Outcome State Fault Refusal) (s : State) : State :=
  match o with
  | .next t => t
  | _ => s

def off22 : DeviceState := ⟨0#8, 22#8, 0#8, false, false⟩
def cool22 : DeviceState := ⟨2#8, 22#8, 0#8, false, false⟩
def heat21 : DeviceState := ⟨5#8, 21#8, 3#8, true, false⟩

/-! ### WellFormed: each check refuses an ill-formed term -/

theorem test_wf_fanq : wellFormed (.fanq 5#8) = true ∧ wellFormed (.fanq 6#8) = false := by decide
theorem test_wf_cfgEnc :
    wellFormed (.cfgEnc cool22) = true ∧ wellFormed (.cfgEnc ⟨0#8, 40#8, 0#8, false, false⟩) = false := by decide
theorem test_wf_sync1Skip :
    wellFormed (.rxSync1Skip 0x7D#8) = true ∧ wellFormed (.rxSync1Skip 0x7E#8) = false := by decide
theorem test_wf_sync2Miss :
    wellFormed (.rxSync2Miss 0x41#8) = true ∧ wellFormed (.rxSync2Miss 0x7E#8) = false := by decide

/-! ### Decode: words written out from `30_encoding.md` and the table's patterns -/

theorem test_dec_cmdMode : decode (.cmdw 0b00000000010#11) = .ok (.cmdMode 2#8) := by decide
theorem test_dec_cmdXhm : decode (.cmdw 0b00100000001#11) = .ok (.cmdXhm 1#8) := by decide
theorem test_dec_cmdTemp : decode (.cmdw 0b01000011001#11) = .ok (.cmdTemp 25#8) := by decide
theorem test_dec_cmdFan : decode (.cmdw 0b01100000011#11) = .ok (.cmdFan 3#8) := by decide
theorem test_dec_cmdSwing : decode (.cmdw 0b10000000001#11) = .ok (.cmdSwing 1#8) := by decide
theorem test_dec_cmdLight : decode (.cmdw 0b10111001000#11) = .ok (.cmdLight 200#8) := by decide
theorem test_dec_cmdRsvd6 : decode (.cmdw 0b11000000001#11) = .ok (.cmdRsvd false 1#8) := by decide
theorem test_dec_cmdRsvd7 : decode (.cmdw 0b11111111111#11) = .ok (.cmdRsvd true 255#8) := by decide
theorem test_dec_sync1Hit : decode (.rxbyte .waitSync1 (some 0b01111110#8)) = .ok .rxSync1Hit := by decide
theorem test_dec_sync1Skip :
    decode (.rxbyte .waitSync1 (some 0b01111111#8)) = .ok (.rxSync1Skip 0x7F#8) := by decide
theorem test_dec_sync2Hit : decode (.rxbyte .waitSync2 (some 0b01111110#8)) = .ok .rxSync2Hit := by decide
theorem test_dec_sync2Miss :
    decode (.rxbyte .waitSync2 (some 0b01000001#8)) = .ok (.rxSync2Miss 0x41#8) := by decide
theorem test_dec_len : decode (.rxbyte .readLength (some 0b01111110#8)) = .ok (.rxLen 126#8) := by decide
theorem test_dec_body : decode (.rxbyte .readBody (some 0b01111110#8)) = .ok (.rxBody 0x7E#8) := by decide
theorem test_dec_empty : decode (.rxbyte .readBody none) = .ok .rxEmpty := by decide
theorem test_dec_tick :
    decode (.tick 0b00000000000000000000001111101000#32) = .ok (.schedTick 1000#32) := by decide
theorem test_dec_rst : decode .rst = .ok .reset := by decide

/-- Sections 1.1 and 2.1: the whole query frame of blkA with PF1. -/
theorem test_dec_frameQuery : decode (.frame50 (reply blkA)) = .ok .frameQuery := by decide +kernel
/-- Section 1.1: the set frame of block Z with PF0. -/
theorem test_dec_frameSet :
    decode (.frame50 (bytesOf [0x7E, 0x7E, 0x2F, 1, 0, 0, 0, 0xAF] ++ List.replicate 41 0#8 ++ [0xDF#8]))
      = .ok .frameSet := by decide +kernel
theorem test_dec_frame_short : decode (.frame50 (bytesOf [0x7E, 0x7E])) = .error .frameNotFiftyBytes := by decide
theorem test_dec_frame_prefix :
    decode (.frame50 (List.replicate 50 0x7E#8)) = .error .frameFixedPartWrong := by decide +kernel
theorem test_dec_frame_command :
    decode (.frame50 (bytesOf [0x7E, 0x7E, 0x2F, 1, 0, 0, 0, 0x01] ++ List.replicate 42 0#8))
      = .error .frameCommandByteUnknown := by decide +kernel

/-- The table's match for FRAME.SET as a 400-bit word, offset 0 lowest. -/
theorem test_word_frameSet : decodeTableWord 400 0xAF000000012F7E7E = some .frameSet := by decide +kernel
theorem test_word_cmd_upper_bits : decodeTableWord 16 0x800 = none := by decide

/-- The INTERNAL rows have no encoding (R73). -/
theorem test_enc_internal :
    encode (.checksum (Vector.replicate 50 0#8)) = none ∧ encode (.isValid cool22) = none ∧
    encode (.frameExtract (Vector.replicate 50 0#8)) = none ∧ encode (.fanq 3#8) = none ∧
    encode (.cfgDec blkA) = none ∧ encode (.cfgEnc cool22) = none ∧ encode .rxRead = none ∧
    encode (.pollFire 0#32) = none ∧ encode (.syncUpdate cool22) = none ∧ encode (.xhm 5#8) = none :=
  ⟨rfl, rfl, rfl, rfl, rfl, rfl, rfl, rfl, rfl, rfl⟩

/-! ### Frame Codec (section 2.1) -/

theorem test_checksum_all_ff :
    next (exec (.checksum (Vector.replicate 50 0xFF#8)) State.reset) (fun t => t.ret = .byte 0xD2#8) := by
  decide +kernel
theorem test_checksum_outside :
    next (exec (.checksum ((((Vector.replicate 50 0#8).set 0 0x7E#8).set 48 0xFF#8).set 49 0x55#8)) State.reset)
      (fun t => t.ret = .byte 0#8) := by decide +kernel
theorem test_build_query_pf1 : (buildFrame pf1 blkA false)[49] = 0x81#8 := by decide +kernel
theorem test_build_set_pf1 : (buildFrame pf1 zeroBlock true)[49] = 0x0B#8 := by decide +kernel
theorem test_frameQuery_writes_txf :
    next (exec .frameQuery (base dev0 off22)) (fun t => t.txf[7] = 0#8 ∧ t.txf[9] = 0x60#8 ∧ t.cfg = dev0) := by
  decide +kernel
theorem test_frameSet_writes_txf :
    next (exec .frameSet (base dev0 off22)) (fun t => t.txf[7] = 0xAF#8 ∧ t.txf[2] = 0x2F#8 ∧ t.pend = false) := by
  decide +kernel
theorem test_extract :
    next (exec (.frameExtract ((buildFrame pf1 blkA false).set 49 0#8)) State.reset)
      (fun t => t.ret = .block blkA) := by decide +kernel

/-! ### Bit-Packer (sections 2.2 and 2.3) -/

theorem test_isValid_upper :
    next (exec (.isValid ⟨5#8, 30#8, 5#8, true, true⟩) State.reset) (fun t => t.ret = .bit true) := by decide +kernel
theorem test_isValid_temp15 :
    next (exec (.isValid ⟨0#8, 15#8, 0#8, false, false⟩) State.reset) (fun t => t.ret = .bit false) := by
  decide +kernel
theorem test_fanq_table :
    fanQuant 0#8 = 0#4 ∧ fanQuant 1#8 = 1#4 ∧ fanQuant 2#8 = 2#4 ∧ fanQuant 3#8 = 2#4 ∧ fanQuant 4#8 = 3#4 ∧
    fanQuant 5#8 = 3#4 := by decide
theorem test_fanq_returns : next (exec (.fanq 3#8) State.reset) (fun t => t.ret = .nibble 2#4) := by decide +kernel
theorem test_dec_busy :
    next (exec (.cfgDec blkP) State.reset) (fun t => t.ret = .device ⟨0#8, 30#8, 5#8, true, false⟩) := by
  decide +kernel
theorem test_dec_fanq_ignored :
    next (exec (.cfgDec (blockOf [0x93, 0x6B, 2, 0, 0x20, 0, 0, 0, 0, 0, 0, 0, 0, 0, 0x13, 0])) State.reset)
      (fun t => t.ret = .device ⟨2#8, 22#8, 3#8, true, true⟩) := by decide +kernel
theorem test_enc_over_ff :
    next (exec (.cfgEnc ⟨1#8, 25#8, 4#8, false, true⟩) (base (blockOf (List.replicate 16 0xFF)) off22))
      (fun t => t.cfg = blockOf [0x83, 0x9F, 0xFF, 0xFF, 0, 0xFF, 0xFF, 0xFF, 0xFF, 0xFF, 0xFF, 0xFF, 0xFF, 0xFF,
        0x04, 0xFF]) := by decide +kernel
theorem test_enc_over_p :
    next (exec (.cfgEnc ⟨5#8, 30#8, 5#8, true, true⟩) (base blkP off22))
      (fun t => t.cfg = blockOf [0xC3, 0xEA, 0xFF, 0x11, 0x10, 1, 2, 3, 4, 5, 6, 7, 8, 9, 0x05, 0xAA]) := by
  decide +kernel

/-! ### Frame Reader (section 2.4) -/

/-- V3: `7E 41`, reply. -/
theorem test_read_V3 :
    next (exec .rxRead (hearing ((bytesOf [0x7E, 0x41] ++ reply blkA).map some)))
      (fun t => t.ret = .read true ∧ t.cfg = blkA ∧ t.source = []) := by decide +kernel
/-- V4b: `7E`, reply, seventy-nine 55: the third 7E is a length of 126. -/
theorem test_read_V4b :
    next (exec .rxRead (hearing ((0x7E#8 :: reply blkA ++ List.replicate 79 0x55#8).map some)))
      (fun t => t.ret = .read true ∧ t.source = [some 0x55#8] ∧
        t.cfg = blockOf [0, 0xC2, 0x50, 0, 0, 0x10, 0, 0, 0, 0, 0, 0, 0, 0, 0, 0x03]) := by decide +kernel
/-- RX.SYNC1.HIT and RX.SYNC1.SKIP (R113). -/
theorem test_sync1Hit : next (exec .rxSync1Hit State.reset) (fun t => t.rx.state = .waitSync2) := by decide +kernel
theorem test_sync1Skip :
    next (exec (.rxSync1Skip 0x12#8) State.reset) (fun t => t.rx = State.reset.rx) := by decide +kernel
/-- RX.SYNC2.HIT, and RX.SYNC2.MISS with V8's byte 00 (R114). -/
theorem test_sync2Hit :
    next (exec .rxSync2Hit (hearing [])) (fun t => t.rx.state = .readLength) := by decide +kernel
theorem test_sync2Miss :
    next (exec (.rxSync2Miss 0x00#8) { State.reset with rx := ⟨.waitSync2, 0#8, 3, Vector.replicate 50 0#8⟩ })
      (fun t => t.rx.state = .waitSync1) := by decide +kernel
/-- R115's example: b = 0x2F gives RX.CNT = 47. -/
theorem test_len :
    next (exec (.rxLen 0x2F#8) State.reset) (fun t => t.rx.cnt = 47#8 ∧ t.rx.state = .readBody ∧ t.rx.idx = 3) := by
  decide +kernel
/-- R116's example: RX.CNT 47, RX.IDX 3, b = 0x01. -/
theorem test_body :
    next (exec (.rxBody 0x01#8) { State.reset with rx := ⟨.readBody, 47#8, 3, Vector.replicate 50 0#8⟩ })
      (fun t => t.rx.buf[3] = 1#8 ∧ t.rx.idx = 4 ∧ t.rx.cnt = 46#8 ∧ t.ret = .nothing) := by decide +kernel
/-- R116, R117, R124: the last byte is dropped past the buffer's end and the copy-out is done. -/
theorem test_body_last :
    next (exec (.rxBody 0x99#8) { State.reset with rx := ⟨.readBody, 1#8, 50, Vector.replicate 50 0x22#8⟩ })
      (fun t => t.rx.buf = Vector.replicate 50 0x22#8 ∧ t.rx.idx = 50 ∧ t.ret = .read true ∧
        t.cfg = Vector.replicate 16 0x22#8) := by decide +kernel
theorem test_empty :
    next (exec .rxEmpty { State.reset with phase := .reading }) (fun t => t.ret = .read false ∧ t.phase = .idle) := by
  decide +kernel

/-! ### Scheduler (section 2.5) -/

theorem test_tick_999 : next (exec (.schedTick 999#32) State.reset) (fun t => t = State.reset) := by decide +kernel
theorem test_tick_wrap :
    next (exec (.schedTick 0x2E8#32) { State.reset with tLast := 0xFFFFFF00#32 })
      (fun t => t.tLast = 744#32 ∧ t.airErr = true ∧ t.trace.length = 50) := by decide +kernel
/-- PEND 1 and a complete reply: the set frame goes out, the reply's block replaces the command's, and the valid
change is published (P2 step 6, scenario 4). -/
theorem test_fire_reply :
    next (exec (.pollFire 1000#32) { base dev0 off22 with pend := true, source := (reply blkA).map some })
      (fun t => t.cfg = blkA ∧ t.lks = heat21 ∧ t.pend = false ∧ t.airErr = false ∧ t.txf[7] = 0xAF#8 ∧
        t.trace[50]? = some (.pub ⟨5#8, 1#8, 21#8, 3#8, true, false⟩)) := by decide +kernel
/-- P4 step 5: an invalid reply is dropped, AIR_ERR stays 0, CFG keeps it. -/
theorem test_fire_invalid_reply :
    next (exec (.pollFire 2000#32) { base dev0 off22 with pend := true, source := (reply badBlk).map some })
      (fun t => t.cfg = badBlk ∧ t.lks = off22 ∧ t.airErr = false ∧ t.trace.length = 50) := by decide +kernel

/-! ### State Synchronizer (section 2.6) -/

theorem test_sync_change :
    next (exec (.syncUpdate cool22) (base dev0 off22))
      (fun t => t.lks = cool22 ∧ t.trace = [.pub ⟨2#8, 2#8, 22#8, 0#8, false, false⟩]) := by decide +kernel
theorem test_sync_invalid :
    next (exec (.syncUpdate ⟨2#8, 22#8, 6#8, false, false⟩) (base dev0 off22)) (fun t => t = base dev0 off22) := by
  decide +kernel
theorem test_xhm :
    xhmOf 0#8 = 0#8 ∧ xhmOf 1#8 = 0#8 ∧ xhmOf 2#8 = 2#8 ∧ xhmOf 3#8 = 0#8 ∧ xhmOf 4#8 = 0#8 ∧ xhmOf 5#8 = 1#8 := by
  decide
theorem test_xhm_returns : next (exec (.xhm 5#8) State.reset) (fun t => t.ret = .byte 1#8) := by decide +kernel

/-! ### Command Router (section 2.7) -/

theorem test_cmdMode_5 :
    next (exec (.cmdMode 5#8) (base dev0 off22)) (fun t => t.pend = true ∧ t.lks = off22 ∧
      t.cfg = blockOf [0xC0, 0x60, 0, 0x07, 0, 0, 0, 0, 0, 0, 0x33, 0, 0, 0, 0, 0x01]) := by decide +kernel
theorem test_cmdMode_6 :
    next (exec (.cmdMode 6#8) (base dev0 off22)) (fun t => t = base dev0 off22) := by decide +kernel
theorem test_cmdXhm_2 :
    next (exec (.cmdXhm 2#8) (base dev0 off22)) (fun t => t.pend = true ∧
      t.cfg = blockOf [0x90, 0x60, 0, 0x07, 0, 0, 0, 0, 0, 0, 0x33, 0, 0, 0, 0, 0x01]) := by decide +kernel
theorem test_cmdXhm_255 :
    next (exec (.cmdXhm 255#8) (base dev0 ⟨5#8, 22#8, 0#8, false, false⟩))
      (fun t => t.pend = true ∧ t.cfg = dev0) := by decide +kernel
theorem test_cmdTemp_30_over_p :
    next (exec (.cmdTemp 30#8) (base blkP heat21)) (fun t => t.pend = true ∧
      t.cfg = blockOf [0xC2, 0xEA, 0xFD, 0x11, 0x10, 1, 2, 3, 4, 5, 6, 7, 8, 9, 0x03, 0xAA]) := by decide +kernel
theorem test_cmdTemp_31 :
    next (exec (.cmdTemp 31#8) (base dev0 off22)) (fun t => t = base dev0 off22) := by decide +kernel
theorem test_cmdFan_3 :
    next (exec (.cmdFan 3#8) (base dev0 cool22)) (fun t => t.pend = true ∧
      t.cfg = blockOf [0x92, 0x60, 0, 0x07, 0, 0, 0, 0, 0, 0, 0x33, 0, 0, 0, 0x03, 0x01]) := by decide +kernel
/-- P4 step 3: a discarded command leaves an earlier PEND set. -/
theorem test_cmdFan_9 :
    next (exec (.cmdFan 9#8) { base dev0 off22 with pend := true }) (fun t => t.pend = true ∧ t.cfg = dev0) := by
  decide +kernel
theorem test_cmdSwing_2 :
    next (exec (.cmdSwing 2#8) (base dev0 cool22)) (fun t => t.pend = true ∧
      t.cfg = blockOf [0x90, 0x60, 0, 0x07, 0x10, 0, 0, 0, 0, 0, 0x33, 0, 0, 0, 0, 0x01]) := by decide +kernel
theorem test_cmdSwing_0 :
    next (exec (.cmdSwing 0#8) (base dev0 ⟨2#8, 22#8, 0#8, true, false⟩)) (fun t => t.pend = true ∧
      t.cfg = blockOf [0x90, 0x60, 0, 0x07, 0, 0, 0, 0, 0, 0, 0x33, 0, 0, 0, 0, 0x01]) := by decide +kernel
theorem test_cmdLight_200 :
    next (exec (.cmdLight 200#8) (base dev0 cool22)) (fun t => t.pend = true ∧
      t.cfg = blockOf [0x90, 0x60, 0x02, 0x07, 0, 0, 0, 0, 0, 0, 0x33, 0, 0, 0, 0, 0x01]) := by decide +kernel
theorem test_cmdLight_0_over_p :
    next (exec (.cmdLight 0#8) (base blkP ⟨5#8, 21#8, 3#8, true, true⟩)) (fun t => t.pend = true ∧
      t.cfg = blockOf [0xC2, 0x5A, 0xFD, 0x11, 0x10, 1, 2, 3, 4, 5, 6, 7, 8, 9, 0x03, 0xAA]) := by decide +kernel
theorem test_cmdRsvd :
    next (exec (.cmdRsvd true 255#8) (base dev0 off22)) (fun t => t = base dev0 off22) := by decide +kernel

/-! ### Reset (section 2.9), status (2.8), the host's value (D6) -/

theorem test_reset :
    next (exec .reset { base blkP heat21 with pend := true, airErr := true, tLast := 7#32, source := [some 1#8] })
      (fun t => t.cfg = zeroBlock ∧ t.lks = ⟨0#8, 16#8, 0#8, false, false⟩ ∧ t.pend = false ∧ t.airErr = false ∧
        t.tLast = 0#32 ∧ t.source = [some 1#8] ∧ t.trace = []) := by decide +kernel
theorem test_reset_decodes : decodeCfg State.reset.cfg = State.reset.lks := by decide +kernel
theorem test_status :
    aggregateStatus true true true = .transport ∧ aggregateStatus false true true = .bus ∧
    aggregateStatus false false true = .device ∧ aggregateStatus false false false = .ok := by decide
theorem test_present_value : presentValue (-1) = 255#8 ∧ presentValue 256 = 255#8 ∧ presentValue 40 = 40#8 := by
  decide

/-! ### Steps: a leftover byte goes before the next tick's list (R71); a placed word runs -/

theorem test_step_tick_leftover :
    next (step { State.reset with inbox := [.tick 1000#32 ((reply blkA).drop 1 |>.map some)],
                                  source := [none, some 0x7E#8, none] })
      (fun t => t.cfg = blkA ∧ t.lks = heat21 ∧ t.source = [] ∧ t.inbox = []) := by decide +kernel
theorem test_step_placed :
    next (step (State.reset.withFetchWord 16 0x219)) (fun t => t.pend = true ∧ t.cfg[1] = 0x90#8) := by
  decide +kernel

/-! ### Witnesses: states and operands that meet every hypothesis of a statement -/

/-- A pending command over dev0. -/
def pending : State := { base (encodeCfg cool22 dev0) off22 with pend := true }

/-- What SYNC.UPDATE of `cool22` does to `base dev0 off22`. -/
def synced : State :=
  { base dev0 off22 with lks := cool22, trace := [.pub ⟨2#8, 2#8, 22#8, 0#8, false, false⟩] }

/-- FANQ's three clauses, at the ends of their ranges. -/
theorem wit_FanQuantization :
    (0#8 : Byte).toNat < 3 ∧ (2#8 : Byte).toNat < 3 ∧ (3#8 : Byte).toNat = 3 ∧ 3 < (4#8 : Byte).toNat ∧ 3 < (255#8 : Byte).toNat := by decide
theorem wit_EncodeWritesItsTargets : isValid ⟨5#8, 30#8, 5#8, true, true⟩ = true := by decide
theorem wit_EncodeClearsByte14HighNibble : isValid ⟨0#8, 16#8, 0#8, false, false⟩ = true := by decide
theorem wit_EncodeOfInvalidStateRefused : isValid ⟨6#8, 22#8, 0#8, false, false⟩ = false := by decide
theorem wit_DecodeAfterEncode : isValid heat21 = true := by decide
theorem wit_LastEncodeWins : isValid heat21 = true ∧ isValid cool22 = true := by decide
theorem wit_XhmValue :
    (5#8 : Byte).toNat = 5 ∧ (2#8 : Byte).toNat = 2 ∧ (4#8 : Byte).toNat ≠ 5 ∧ (4#8 : Byte).toNat ≠ 2 := by decide
/-- RX.BODY's two clauses: a count of 0 or 2 goes on, a count of 1 completes. -/
theorem wit_BodyByteStoredCountedAndCopiedOut :
    (0#8 : Byte).toNat ≠ 1 ∧ (2#8 : Byte).toNat ≠ 1 ∧ (1#8 : Byte).toNat = 1 := by decide
/-- ReadChangesOnlyCfg's two clauses: a read that fails, a read that returns ok. -/
theorem wit_ReadChangesOnlyCfg :
    next (exec .rxRead (hearing [])) (fun t => t.ret = .read false) ∧
    next (exec .rxRead (hearing ((reply blkA).map some))) (fun t => t.ret = .read true) := by decide +kernel
/-- Vectors V5.0 and V5.49: the gap before the first byte and before the 50th. -/
theorem wit_GapBeforeLastByteFails :
    let f := buildFrame pf1 blkA false
    f[0] = 0x7E#8 ∧ f[1] = 0x7E#8 ∧ f[2] = 0x2F#8 ∧ 0 < 50 ∧ 49 < 50 ∧
    (hearing (none :: f.toList.map some)).source = (f.toList.take 0).map some ++ none :: f.toList.map some ∧
    (hearing ((f.toList.take 49).map some ++ [none])).source = (f.toList.take 49).map some ++ none :: [] := by
  decide +kernel
/-- Length bytes 0 (256 body bytes), 1, 47 and 255, after two skipped bytes. -/
theorem wit_ReadTakesFrameOfAnyLength :
    (∀ b ∈ bytesOf [0x00, 0xFF], b ≠ 0x7E#8) ∧
    ∀ len ∈ bytesOf [0, 1, 47, 255],
      let body := List.replicate (if len.toNat = 0 then 256 else len.toNat) 0x40#8
      body.length = (if len.toNat = 0 then 256 else len.toNat) ∧
      (hearing ((bytesOf [0x00, 0xFF] ++ 0x7E#8 :: 0x7E#8 :: len :: body).map some ++ [some 0xEE#8])).source
        = (bytesOf [0x00, 0xFF] ++ 0x7E#8 :: 0x7E#8 :: len :: body).map some ++ [some 0xEE#8] := by decide +kernel
theorem wit_ReadIsTheRunOfItsByteSteps :
    (hearing ((reply blkA).map some)).inbox.head? ≠ some .rst := by decide
/-- Elapsed exactly 1000 and exactly 999, without and with a wrap (section 2.5). -/
theorem wit_TickFiresIffIntervalElapsed :
    1000 ≤ ((1000#32 : Time).toNat + 2 ^ 32 - State.reset.tLast.toNat) % 2 ^ 32 ∧
    ((999#32 : Time).toNat + 2 ^ 32 - State.reset.tLast.toNat) % 2 ^ 32 < 1000 ∧
    1000 ≤ ((0x2E8#32 : Time).toNat + 2 ^ 32 - (0xFFFFFF00#32 : Time).toNat) % 2 ^ 32 ∧
    ((0x2E7#32 : Time).toNat + 2 ^ 32 - (0xFFFFFF00#32 : Time).toNat) % 2 ^ 32 < 1000 := by decide
/-- PEND 1, PEND 0, and an operation that is no command from PEND 0. -/
theorem wit_PendingCommandIsSentOnce :
    pending.pend = true ∧ (base dev0 off22).pend = false ∧ isCommand (.syncUpdate cool22) = false ∧
    exec (.syncUpdate cool22) (base dev0 off22) = .next synced := ⟨rfl, rfl, rfl, rfl⟩
theorem wit_FailedReadLeavesRegisters :
    exec .rxRead pending = .next (after (exec .rxRead pending) pending) ∧
    (after (exec .rxRead pending) pending).ret = .read false := ⟨rfl, by decide +kernel⟩
theorem wit_InvalidReplyIsDropped :
    let s := hearing ((reply badBlk).map some)
    exec .rxRead s = .next (after (exec .rxRead s) s) ∧ (after (exec .rxRead s) s).ret = .read true ∧
    isValid (decodeCfg (after (exec .rxRead s) s).cfg) = false := ⟨rfl, by decide +kernel, by decide +kernel⟩
theorem wit_SyncUpdateLatchesAndPublishes :
    isValid ⟨6#8, 22#8, 0#8, false, false⟩ = false ∧ off22 = (base dev0 off22).lks ∧
    isValid cool22 = true ∧ cool22 ≠ (base dev0 off22).lks := by decide
/-- LKS valid, and a value at each end of each clause. -/
theorem wit_NumericCommandsAcceptedIffInRange :
    isValid (base dev0 off22).lks = true ∧ (5#8 : Byte).toNat ≤ 5 ∧ 5 < (6#8 : Byte).toNat ∧
    (16 ≤ (16#8 : Byte).toNat ∧ (16#8 : Byte).toNat ≤ 30) ∧ (16 ≤ (30#8 : Byte).toNat ∧ (30#8 : Byte).toNat ≤ 30) ∧
    (15#8 : Byte).toNat < 16 ∧ 30 < (31#8 : Byte).toNat := by decide
theorem wit_XhmCommandAlwaysAccepted : isValid (base dev0 off22).lks = true := by decide
theorem wit_BooleanCommandsAlwaysAccepted : isValid (base dev0 heat21).lks = true := by decide
theorem wit_XhmCommandIsAModeCommand :
    (0#8 : Byte).toNat ≠ 1 ∧ (0#8 : Byte).toNat ≠ 2 ∧ (3#8 : Byte).toNat ≠ 1 ∧ (3#8 : Byte).toNat ≠ 2 := by decide
theorem wit_CommandsWriteOnlyCfgAndPend :
    isCommand (.cmdMode 2#8) = true ∧ isCommand (.cmdRsvd false 0#8) = true ∧ reservedByte 3 = true ∧
    reservedByte 13 = true ∧ reservedByte 15 = true := by decide
/-- P4 steps 1 to 3: Mode 2 then Temp 25 (overrides), Mode 2 then Fan 9 (discarded). -/
theorem wit_SecondCommandOverridesTheFirst :
    let s := base dev0 off22
    let t := after (exec (.cmdMode 2#8) s) s
    isCommand (.cmdMode 2#8) = true ∧ isCommand (.cmdTemp 25#8) = true ∧ isCommand (.cmdFan 9#8) = true ∧
    exec (.cmdMode 2#8) s = .next t ∧
    exec (.cmdTemp 25#8) t = .next (after (exec (.cmdTemp 25#8) t) t) ∧
    exec (.cmdTemp 25#8) s = .next (after (exec (.cmdTemp 25#8) s) s) ∧
    exec (.cmdFan 9#8) t = .next t ∧ exec (.cmdFan 9#8) s = .next s :=
  ⟨rfl, rfl, rfl, rfl, rfl, rfl, rfl, rfl⟩
/-- Each of the nine clauses has a state. -/
theorem wit_StepRunsThePresentedOperation :
    (State.reset.phase = .idle ∧ State.reset.inbox = []) ∧
    (∃ s : State, s.phase = .idle ∧ s.inbox = [.cmd 0x002#11]) ∧
    (∃ s : State, s.phase = .idle ∧ s.inbox = [.tick 1000#32 [some 0x7E#8]]) ∧
    (∃ s : State, s.phase = .reading ∧ s.inbox.head? ≠ some .rst ∧ s.source = [some 0x7E#8]) ∧
    (∃ s : State, s.phase = .reading ∧ s.inbox.head? ≠ some .rst ∧ s.source = [none]) ∧
    (∃ s : State, s.phase = .reading ∧ s.inbox.head? ≠ some .rst ∧ s.source = []) ∧
    (∃ s : State, s.phase = .building (reply blkA) ∧ s.inbox.head? ≠ some .rst ∧
      decode (.frame50 (reply blkA)) = .ok .frameQuery) ∧
    (∃ s : State, s.phase = .building [] ∧ s.inbox.head? ≠ some .rst ∧
      decode (.frame50 []) = .error .frameNotFiftyBytes) ∧
    (∃ s : State, s.inbox = [.rst]) :=
  ⟨⟨rfl, rfl⟩,
    ⟨{ State.reset with inbox := [.cmd 0x002#11] }, rfl, rfl⟩,
    ⟨{ State.reset with inbox := [.tick 1000#32 [some 0x7E#8]] }, rfl, rfl⟩,
    ⟨{ State.reset with phase := .reading, source := [some 0x7E#8] }, rfl, by decide, rfl⟩,
    ⟨{ State.reset with phase := .reading, source := [none] }, rfl, by decide, rfl⟩,
    ⟨{ State.reset with phase := .reading }, rfl, by decide, rfl⟩,
    ⟨{ State.reset with phase := .building (reply blkA) }, rfl, by decide, test_dec_frameQuery⟩,
    ⟨{ State.reset with phase := .building [] }, rfl, by decide, by decide⟩,
    ⟨{ State.reset with inbox := [.rst] }, rfl⟩⟩
theorem wit_StepTakesOneStimulusWhole :
    ({ State.reset with inbox := [.tick 1000#32 [some 0x7E#8]] } : State).phase = .idle := rfl
/-- A word that decodes, one with a bit above bit 10, and a width of no row. -/
theorem wit_PlacedWordRunsNext :
    decodeTableWord 16 0x002 = some (.cmdMode 2#8) ∧ decodeTableWord 16 0x800 = none ∧
    decodeTableWord 24 0x002 = none := by decide
theorem wit_DecodeEncodeAgree :
    wellFormed (.rxSync2Miss 0x41#8) = true ∧
    encode (.rxSync2Miss 0x41#8) = some (.rxbyte .waitSync2 (some 0x41#8)) := by decide
theorem wit_StepKeepsInv :
    let s : State := { State.reset with inbox := [.cmd 0x002#11] }
    MachineInv s ∧ step s = .next (after (step s) s) ∧ (after (step s) s).pend = true :=
  ⟨⟨rfl, rfl, (fun h => by cases h), (fun h => by cases h), rfl⟩, rfl, by decide +kernel⟩
theorem wit_SetFrameCarriesAValidState : MachineInv pending ∧ pending.pend = true :=
  ⟨⟨rfl, rfl, (fun _ => by decide +kernel), (fun h => by cases h), rfl⟩, rfl⟩
theorem wit_WellFormedOperationsComplete : wellFormed (.cfgEnc heat21) = true := by decide
/-- LKS changed, by SYNC.UPDATE. -/
theorem wit_LksWrittenOnlyBySyncAndReset :
    exec (.syncUpdate cool22) (base dev0 off22) = .next synced ∧ synced.lks ≠ (base dev0 off22).lks :=
  ⟨rfl, by decide⟩
/-- Both clauses: a command sets PEND, a fire clears it. -/
theorem wit_PendSetByCommandsClearedByFires :
    let s := base dev0 off22
    let t := after (exec (.cmdMode 2#8) s) s
    let u := after (exec (.pollFire 5000#32) pending) pending
    exec (.cmdMode 2#8) s = .next t ∧ s.pend = false ∧ t.pend = true ∧
    exec (.pollFire 5000#32) pending = .next u ∧ pending.pend = true ∧ u.pend = false :=
  ⟨rfl, rfl, by decide +kernel, rfl, rfl, by decide +kernel⟩
theorem wit_FireRegistersWrittenOnlyByFires :
    let u := after (exec (.pollFire 5000#32) pending) pending
    exec (.pollFire 5000#32) pending = .next u ∧ u.tLast ≠ pending.tLast ∧ u.airErr ≠ pending.airErr :=
  ⟨rfl, by decide +kernel, by decide +kernel⟩
/-- A reserved byte changed, by the copy-out of a received block. -/
theorem wit_ReservedBytesRoundTrip :
    let s := hearing ((reply dev0).map some)
    exec .rxRead s = .next (after (exec .rxRead s) s) ∧ reservedByte 3 = true ∧
    (after (exec .rxRead s) s).cfg[3] ≠ s.cfg[3] := ⟨rfl, by decide, by decide +kernel⟩
theorem wit_PublishOnlyOnChangeOfLks :
    exec (.syncUpdate cool22) (base dev0 off22) = .next synced ∧ publishedEvents synced.trace ≠ [] :=
  ⟨rfl, by decide +kernel⟩
theorem wit_TraceOnlyGrows :
    let u := after (exec (.pollFire 5000#32) pending) pending
    exec (.pollFire 5000#32) pending = .next u ∧ (sentBytes u.trace).length ≠ (sentBytes pending.trace).length :=
  ⟨rfl, by decide +kernel⟩
theorem wit_StatusPrecedence :
    State.reset.airErr = false ∧ ({ State.reset with airErr := true } : State).airErr = true := by decide
theorem wit_HostValueSaturates :
    (0 : Int) ≤ 0 ∧ (255 : Int) ≤ 255 ∧ (-1 : Int) < 0 ∧ (255 : Int) < 256 := by decide
/-- A set pattern, a query pattern, and one whose command byte AE is a bit away from AF. -/
theorem wit_FramePatternsDecodeByOffsets0To7 :
    let pattern (cmd : Nat) := bytesOf [0x7E, 0x7E, 0x2F, 1, 0, 0, 0, cmd] ++ List.replicate 42 0x55#8
    MatchesFrameRow (pattern 0xAF) 0xAF#8 ∧ MatchesFrameRow (pattern 0x00) 0x00#8 ∧
    ¬ MatchesFrameRow (pattern 0xAE) 0xAF#8 ∧ ¬ MatchesFrameRow (pattern 0xAE) 0x00#8 := by
  unfold MatchesFrameRow
  decide +kernel

end Sys2Proof.Tests
end

section
/-! Proofs about the encoding (`30_encoding.md`): the alias X-HM-Mode. -/

namespace Sys2Proof.Machine

/-! ### The write mapping of X-HM-Mode (R158), one equation per case -/

@[simp] theorem xhmToMode_one : xhmToMode 1#8 = 5#8 := rfl

@[simp] theorem xhmToMode_two : xhmToMode 2#8 = 2#8 := rfl

theorem xhmToMode_of_ne {v : Byte} (h1 : v ≠ 1#8) (h2 : v ≠ 2#8) : xhmToMode v = 0#8 := by
  simp [xhmToMode, h1, h2]

/-- Both commands route the candidate that differs from LKS in its mode only (R157, R158), so CMD.XHM is
CMD.MODE of the mapped value, whether or not that candidate is accepted. -/
theorem exec_cmdXhm_eq_exec_cmdMode (v : Byte) (s : State) :
    exec (.cmdXhm v) s = exec (.cmdMode (xhmToMode v)) s := rfl

/-- Settles O36: CMD.XHM is CMD.MODE of the mapped value, and the mapping has the three cases R72 names. -/
theorem xhmCommandIsAModeCommand : Obligations.XhmCommandIsAModeCommand := by
  intro s
  refine ⟨?one, ?two, ?other⟩
  case one => rw [exec_cmdXhm_eq_exec_cmdMode, xhmToMode_one]
  case two => rw [exec_cmdXhm_eq_exec_cmdMode, xhmToMode_two]
  case other =>
    intro v hv1 hv2
    have h1 : v ≠ 1#8 := fun h => hv1 (congrArg BitVec.toNat h)
    have h2 : v ≠ 2#8 := fun h => hv2 (congrArg BitVec.toNat h)
    rw [exec_cmdXhm_eq_exec_cmdMode, xhmToMode_of_ne h1 h2]

end Sys2Proof.Machine
end

section
/-! Proofs about the Frame Codec (`40_frame_codec.md`): the checksum, the frame layout, the extraction. -/

namespace Sys2Proof.Machine

/-! ### CHECKSUM (R76) -/

/-- The model's recursive sum is the library's sum of the bytes' values. -/
theorem sumBytes_eq_sum_map (l : List Byte) : sumBytes l = (l.map BitVec.toNat).sum := by
  induction l with
  | nil => rfl
  | cons b bs ih => simp [sumBytes, ih]

/-- The list CHECKSUM sums, offset by offset. -/
theorem take_drop_eq_ofFn (f : Frame) :
    (f.toList.drop 2).take 46 = List.ofFn fun k : Fin 46 => f[k.val + 2] := by
  apply List.ext_getElem
  · simp
  · intro i _ _
    rw [List.getElem_take, List.getElem_drop, List.getElem_ofFn, Vector.getElem_toList]
    simp only [Nat.add_comm 2 i]

theorem checksum_toNat (f : Frame) :
    (checksum f).toNat = (∑ k : Fin 46, (f[k.val + 2]).toNat) % 256 := by
  have hsum : sumBytes ((f.toList.drop 2).take 46) = ∑ k : Fin 46, (f[k.val + 2]).toNat := by
    rw [sumBytes_eq_sum_map, take_drop_eq_ofFn, List.map_ofFn, List.sum_ofFn]
    rfl
  rw [checksum, BitVec.toNat_ofNat, hsum]

/-! ### The regions of a built frame (R35, R77, R78) -/

/-- Offsets 0 to 7: the sync pair, the length, four fixed bytes and the command byte. -/
theorem buildFrame_header (pf : Vector Byte 25) (blk : Block) (isSet : Bool) :
    (buildFrame pf blk isSet)[0] = Config.sync ∧ (buildFrame pf blk isSet)[1] = Config.sync ∧
    (buildFrame pf blk isSet)[2] = Config.lenVal ∧ (buildFrame pf blk isSet)[3] = Config.fixed3 ∧
    (buildFrame pf blk isSet)[4] = 0#8 ∧ (buildFrame pf blk isSet)[5] = 0#8 ∧
    (buildFrame pf blk isSet)[6] = 0#8 ∧
    (buildFrame pf blk isSet)[7] = if isSet then Config.cmdSet else Config.cmdQuery := by
  simp [buildFrame_getElem, frameByte]

/-- From offset 8 on, the frame map is past its five header cases. -/
theorem frameByte_of_eight_le (pf : Vector Byte 25) (blk : Block) (isSet : Bool) (k : Fin 50)
    (hk : 8 ≤ k.val) :
    frameByte pf blk isSet k =
      if h : k.val < 24 then blk[k.val - 8] else if h' : k.val < 49 then pf[k.val - 24] else 0#8 := by
  rw [frameByte, if_neg (by omega), if_neg (by omega), if_neg (by omega), if_neg (by omega),
    if_neg (by omega)]

/-- Offsets 8 to 23: the block. -/
theorem buildFrame_block (pf : Vector Byte 25) (blk : Block) (isSet : Bool) (i : Nat) (hi : i < 16) :
    (buildFrame pf blk isSet)[8 + i] = blk[i] := by
  have hblock : 8 + i < 24 := by omega
  rw [buildFrame_getElem _ _ _ _ (by omega), frameByte_of_eight_le _ _ _ _ (Nat.le_add_right 8 i)]
  simp [hblock]

/-- Offsets 24 to 48: POSTFIX. -/
theorem buildFrame_tail (pf : Vector Byte 25) (blk : Block) (isSet : Bool) (j : Nat) (hj : j < 25) :
    (buildFrame pf blk isSet)[24 + j] = pf[j] := by
  have htail : 24 + j < 49 := by omega
  have hheader : 8 ≤ 24 + j := by omega
  rw [buildFrame_getElem _ _ _ _ htail, frameByte_of_eight_le _ _ _ _ hheader]
  simp [htail]

/-- A frame built with the device's POSTFIX has the fixed layout, for either command byte. -/
theorem buildFrame_layout (blk : Block) (isSet : Bool) :
    FrameLayout (buildFrame Config.postfixBytes blk isSet) blk
      (if isSet then Config.cmdSet else Config.cmdQuery) := by
  obtain ⟨h0, h1, h2, h3, h4, h5, h6, h7⟩ := buildFrame_header Config.postfixBytes blk isSet
  refine ⟨h0, h1, h2, h3, h4, h5, h6, h7, ?block, ?tail, ?checksum⟩
  case block => exact fun i => buildFrame_block _ _ _ i.val i.isLt
  case tail => exact fun j => buildFrame_tail _ _ _ j.val j.isLt
  case checksum => rw [buildFrame_checksum, checksum_toNat]

/-! ### What each operation leaves: one equation per instruction -/

theorem exec_checksum (f : Frame) (s : State) :
    exec (.checksum f) s = .next { s with ret := .byte (checksum f) } := rfl

theorem exec_frameQuery (s : State) :
    exec .frameQuery s = .next { s with
      txf := buildFrame Config.postfixBytes s.cfg false
      ret := .frame (buildFrame Config.postfixBytes s.cfg false) } := rfl

theorem exec_frameSet (s : State) :
    exec .frameSet s = .next { s with
      txf := buildFrame Config.postfixBytes s.cfg true
      ret := .frame (buildFrame Config.postfixBytes s.cfg true) } := rfl

theorem exec_frameExtract (f : Frame) (s : State) :
    exec (.frameExtract f) s = .next { s with ret := .block (extractBlock f) } := rfl

/-! ### The statements -/

/-- Settles O1: the list CHECKSUM sums is the frame's offsets 2 to 47, and a byte holds the sum modulo 256. -/
theorem checksumSumsOffsets2To47 : Obligations.ChecksumSumsOffsets2To47 :=
  fun f s => ⟨checksum f, exec_checksum f s, checksum_toNat f⟩

/-- Settles O2: both operations build the frame of CFG, whose layout holds for either flag. -/
theorem framesHaveTheFixedLayout : Obligations.FramesHaveTheFixedLayout :=
  fun s => ⟨⟨_, exec_frameQuery s, buildFrame_layout s.cfg false⟩,
    ⟨_, exec_frameSet s, buildFrame_layout s.cfg true⟩⟩

/-- Settles O5: the block returned is the copy of the buffer's offsets 8 to 23. -/
theorem extractCopiesOffsets8To23 : Obligations.ExtractCopiesOffsets8To23 :=
  fun f s => ⟨extractBlock f, exec_frameExtract f s,
    fun i => extractBlock_getElem f i.val i.isLt⟩

end Sys2Proof.Machine
end

section
/-! Proofs about the Configuration Bit-Packer (`41_bit_packer.md`): validity, the fan quantizer, decode
after encode. -/

namespace Sys2Proof.Machine

/-! ### What each operation leaves: one equation per instruction -/

theorem exec_isValid (d : DeviceState) (s : State) :
    exec (.isValid d) s = .next { s with ret := .bit (isValid d) } := rfl

theorem exec_fanq (f : Byte) (s : State) :
    exec (.fanq f) s = .next { s with ret := .nibble (fanQuant f) } := rfl

theorem exec_cfgDec (blk : Block) (s : State) :
    exec (.cfgDec blk) s = .next { s with ret := .device (decodeCfg blk) } := rfl

theorem exec_cfgEnc (d : DeviceState) (s : State) : exec (.cfgEnc d) s = encodeInto d s := rfl

theorem exec_cfgEnc_of_valid {d : DeviceState} (s : State) (hd : isValid d = true) :
    exec (.cfgEnc d) s = .next (writeCfg (encodeCfg d s.cfg) s) := by
  rw [exec_cfgEnc, encodeInto, if_pos hd]

/-! ### Validity (R86) -/

theorem isValid_iff (d : DeviceState) :
    isValid d = true ↔
      d.mode.toNat ≤ 5 ∧ 16 ≤ d.temp.toNat ∧ d.temp.toNat ≤ 30 ∧ d.fan.toNat ≤ 5 := by
  simp [isValid, BitVec.le_def, and_assoc]

/-! ### The fan quantizer (R87), one equation per case -/

theorem fanQuant_toNat_of_lt {f : Byte} (hf : f.toNat < 3) : (fanQuant f).toNat = f.toNat := by
  have hlt : f < 3#8 := hf
  rw [fanQuant, if_pos hlt, BitVec.toNat_setWidth, Nat.mod_eq_of_lt (by omega)]

theorem fanQuant_of_eq {f : Byte} (hf : f.toNat = 3) : fanQuant f = 2#4 := by
  obtain rfl : f = 3#8 := BitVec.eq_of_toNat_eq hf
  rfl

theorem fanQuant_of_gt {f : Byte} (hf : 3 < f.toNat) : fanQuant f = 3#4 := by
  have hlt : ¬ f < 3#8 := by bv_omega
  have hne : f ≠ 3#8 := by bv_omega
  rw [fanQuant, if_neg hlt, if_neg hne]

/-! ### Nibbles as numbers (R11) -/

@[simp] theorem hiNibble_toNat (b : Byte) : (hiNibble b).toNat = b.toNat / 16 := by
  have hb := b.isLt
  rw [hiNibble, BitVec.extractLsb'_toNat, Nat.shiftRight_eq_div_pow]
  omega

@[simp] theorem loNibble_toNat (b : Byte) : (loNibble b).toNat = b.toNat % 16 := by
  rw [loNibble, BitVec.extractLsb'_toNat, Nat.shiftRight_zero]

@[simp] theorem joinNibbles_toNat (h l : Nibble) :
    (joinNibbles h l).toNat = 16 * h.toNat + l.toNat := by
  rw [joinNibbles, BitVec.toNat_append, ← Nat.shiftLeft_add_eq_or_of_lt l.isLt, Nat.shiftLeft_eq]
  omega

@[simp] theorem hiNibble_joinNibbles (h l : Nibble) : hiNibble (joinNibbles h l) = h := by
  apply BitVec.eq_of_toNat_eq
  have hl := l.isLt
  rw [hiNibble_toNat, joinNibbles_toNat]
  omega

/-! ### What CFG.ENC puts in its targets, as numbers, for a field within its bound -/

/-- The mode code of R95: 0 for mode 0, else 8 to 12, above every code DEC.mode reads as 0. -/
theorem encModeCode_toNat {mode : Byte} (hm : mode.toNat ≤ 5) :
    (encModeCode mode).toNat = if 0 < mode.toNat then mode.toNat + 7 else 0 := by
  by_cases hpos : 0 < mode.toNat
  · have hpos' : 0#8 < mode := hpos
    rw [encModeCode, if_pos hpos', if_pos hpos, BitVec.toNat_setWidth, BitVec.toNat_add]
    simp only [BitVec.toNat_ofNat]
    omega
  · have hpos' : ¬ 0#8 < mode := hpos
    rw [encModeCode, if_neg hpos', if_neg hpos, BitVec.toNat_ofNat]

theorem hiNibble_encByte1_toNat {d : DeviceState} (old : Byte)
    (hlo : 16 ≤ d.temp.toNat) (hhi : d.temp.toNat ≤ 30) :
    (hiNibble (encByte1 d old)).toNat = d.temp.toNat - 16 := by
  rw [encByte1, hiNibble_joinNibbles, BitVec.toNat_setWidth, BitVec.toNat_sub]
  simp only [BitVec.toNat_ofNat]
  omega

theorem encByte2_bit1 (d : DeviceState) (old : Byte) : (encByte2 d old).getLsbD 1 = d.light := by
  cases hlight : d.light <;> simp [encByte2, boolByte, hlight]

/-! ### Each field comes back (R106) -/

/-- A mode code up to 7 is read as mode 0, one above 7 as the code less 7 (R88). -/
theorem decMode_toNat (blk : Block) :
    (decMode blk).toNat =
      if (hiNibble blk[0]).toNat ≤ 7 then 0 else (hiNibble blk[0]).toNat - 7 := by
  by_cases hcode : (hiNibble blk[0]).toNat ≤ 7
  · have hle : hiNibble blk[0] ≤ 7#4 := hcode
    rw [decMode, if_pos hle, if_pos hcode, BitVec.toNat_ofNat]
  · have hle : ¬ hiNibble blk[0] ≤ 7#4 := hcode
    have hnib := (hiNibble blk[0]).isLt
    rw [decMode, if_neg hle, if_neg hcode, BitVec.toNat_sub, BitVec.toNat_setWidth]
    simp only [BitVec.toNat_ofNat]
    omega

theorem decMode_encodeCfg {d : DeviceState} (blk : Block) (hm : d.mode.toNat ≤ 5) :
    decMode (encodeCfg d blk) = d.mode := by
  apply BitVec.eq_of_toNat_eq
  rw [decMode_toNat, encodeCfg_get0, encByte0, hiNibble_joinNibbles, encModeCode_toNat hm]
  split_ifs <;> omega

theorem decTemp_encodeCfg {d : DeviceState} (blk : Block)
    (hlo : 16 ≤ d.temp.toNat) (hhi : d.temp.toNat ≤ 30) :
    decTemp (encodeCfg d blk) = d.temp := by
  apply BitVec.eq_of_toNat_eq
  rw [decTemp, encodeCfg_get1, BitVec.toNat_add, BitVec.toNat_setWidth,
    hiNibble_encByte1_toNat _ hlo hhi]
  simp only [BitVec.toNat_ofNat]
  omega

theorem decFan_encodeCfg {d : DeviceState} (blk : Block) (hf : d.fan.toNat ≤ 5) :
    decFan (encodeCfg d blk) = d.fan := by
  apply BitVec.eq_of_toNat_eq
  rw [decFan, encodeCfg_get14, encByte14, BitVec.toNat_setWidth, loNibble_toNat]
  omega

theorem decSwing_encodeCfg (d : DeviceState) (blk : Block) :
    decSwing (encodeCfg d blk) = d.swing := by
  rw [decSwing, encodeCfg_get4, encByte4]
  cases d.swing <;> rfl

theorem decLight_encodeCfg (d : DeviceState) (blk : Block) :
    decLight (encodeCfg d blk) = d.light := by
  rw [decLight, encodeCfg_get2, encByte2_bit1]

/-- Field by field: each bound of IS_VALID is what its field needs to come back. -/
theorem decodeCfg_encodeCfg {d : DeviceState} (blk : Block) (hd : isValid d = true) :
    decodeCfg (encodeCfg d blk) = d := by
  obtain ⟨hmode, htempLo, htempHi, hfan⟩ := (isValid_iff d).mp hd
  rw [decodeCfg, decMode_encodeCfg blk hmode, decTemp_encodeCfg blk htempLo htempHi,
    decFan_encodeCfg blk hfan, decSwing_encodeCfg, decLight_encodeCfg]

/-! ### The statements -/

/-- Settles O7: the bit returned is the conjunction of the bounds. -/
theorem validIffThreeBounds : Obligations.ValidIffThreeBounds :=
  fun d s => ⟨isValid d, exec_isValid d s, isValid_iff d⟩

/-- Settles O8, by the quantizer's three cases. -/
theorem fanQuantization : Obligations.FanQuantization :=
  fun f s => ⟨fanQuant f, exec_fanq f s, fanQuant_toNat_of_lt, fanQuant_of_eq, fanQuant_of_gt⟩

/-- Settles O13: CFG.ENC leaves the encoded block in CFG, from which each field is decoded back. -/
theorem decodeAfterEncode : Obligations.DecodeAfterEncode := by
  intro d s hd
  refine ⟨writeCfg (encodeCfg d s.cfg) s, exec_cfgEnc_of_valid s hd, ?decoded⟩
  rw [exec_cfgDec, writeCfg_cfg, decodeCfg_encodeCfg s.cfg hd]

end Sys2Proof.Machine
end

section
/-! Proofs about the Frame Reader (`42_frame_reader.md`): the byte steps before the body, and a read that
meets no data inside a frame. -/

namespace Sys2Proof.Machine

/-! ### What each operation leaves: one equation per instruction -/

theorem exec_rxSync1Hit (s : State) :
    exec .rxSync1Hit s = .next { s with rx := { s.rx with state := .waitSync2 } } := rfl

theorem exec_rxSync1Skip (b : Byte) (s : State) : exec (.rxSync1Skip b) s = .next s := rfl

theorem exec_rxSync2Hit (s : State) :
    exec .rxSync2Hit s = .next { s with rx := { s.rx with state := .readLength } } := rfl

theorem exec_rxSync2Miss (b : Byte) (s : State) :
    exec (.rxSync2Miss b) s = .next { s with rx := { s.rx with state := .waitSync1 } } := rfl

theorem exec_rxLen (b : Byte) (s : State) :
    exec (.rxLen b) s = .next { s with rx := { s.rx with cnt := b, state := .readBody } } := rfl

theorem exec_rxRead (s : State) :
    exec .rxRead s = .next { s with
      cfg := if readOk s then extractBlock (readRun s.source).reader.buf else s.cfg
      rx := (readRun s.source).reader
      source := (readRun s.source).left
      ret := .read (readOk s) } :=
  congrArg (fun t => Host.Outcome.next (returns (.read (readOk s)) t)) (afterRead_eq s)

/-- A read whose run fails leaves CFG as it was (R118). -/
theorem exec_rxRead_of_fail {s : State} {r : Reader} {left : List Answer}
    (hrun : readRun s.source = ⟨false, r, left⟩) :
    exec .rxRead s = .next { s with rx := r, source := left, ret := .read false } := by
  simp [exec_rxRead, readOk, hrun]

/-! ### RX.READ's loop (R112), one equation per reader state and answer -/

theorem readAnswers_none (rest : List Answer) (r : Reader) :
    readAnswers (none :: rest) r = ⟨false, r, rest⟩ := rfl

theorem readAnswers_sync1_hit (l : List Answer) {r : Reader} (hr : r.state = .waitSync1) :
    readAnswers (some Config.sync :: l) r = readAnswers l (readerGoto .waitSync2 r) := by
  simp [readAnswers, readerByte, hr]

theorem readAnswers_sync2_hit (l : List Answer) {r : Reader} (hr : r.state = .waitSync2) :
    readAnswers (some Config.sync :: l) r = readAnswers l (readerGoto .readLength r) := by
  simp [readAnswers, readerByte, hr]

theorem readAnswers_length (b : Byte) (l : List Answer) {r : Reader} (hr : r.state = .readLength) :
    readAnswers (some b :: l) r = readAnswers l (readerLen b r) := by
  simp [readAnswers, readerByte, hr]

/-- A body byte after which the count is not 0 does not end the read (R116). -/
theorem readAnswers_body_of_cnt_ne (b : Byte) (l : List Answer) {r : Reader}
    (hr : r.state = .readBody) (hcnt : r.cnt - 1#8 ≠ 0#8) :
    readAnswers (some b :: l) r = readAnswers l (readerBody b r) := by
  simp [readAnswers, readerByte, hr, bodyComplete, readerBody, hcnt]

/-! ### No data inside a frame (R120) -/

/-- A body ends with the byte that brings the count to 0, the one after `(RX.CNT - 1) mod 256` others; no
data after at most so many bytes ends the read with fail. -/
theorem readAnswers_body_gap (bs : List Byte) (rest : List Answer) (r : Reader)
    (hr : r.state = .readBody) (hlen : bs.length ≤ (r.cnt - 1#8).toNat) :
    ∃ r' : Reader, readAnswers (bs.map some ++ none :: rest) r = ⟨false, r', rest⟩ := by
  induction bs generalizing r with
  | nil => exact ⟨r, readAnswers_none rest r⟩
  | cons b bs ih =>
    rw [List.length_cons] at hlen
    have hcnt : r.cnt - 1#8 ≠ 0#8 := by
      intro hzero
      simp [hzero] at hlen
    have hlen' : bs.length ≤ ((readerBody b r).cnt - 1#8).toNat := by
      simp only [readerBody]
      bv_omega
    rw [List.map_cons, List.cons_append, readAnswers_body_of_cnt_ne b _ hr hcnt]
    exact ih (readerBody b r) hr hlen'

/-- The read of the first `k` bytes of a frame and then no data, by how far the reader has come: nothing,
one sync byte, the sync pair, or the length byte and `k - 3` of 47 body bytes. -/
theorem readRun_frame_gap (body : List Byte) (k : Nat) (rest : List Answer) (hk : k < 50) :
    ∃ r : Reader,
      readRun (((Config.sync :: Config.sync :: Config.lenVal :: body).take k).map some ++ none :: rest)
        = ⟨false, r, rest⟩ := by
  unfold readRun
  match k with
  | 0 => exact ⟨_, readAnswers_none rest _⟩
  | 1 => exact ⟨_, (readAnswers_sync1_hit _ rfl).trans (readAnswers_none rest _)⟩
  | 2 =>
    exact ⟨_, (readAnswers_sync1_hit _ rfl).trans
      ((readAnswers_sync2_hit _ rfl).trans (readAnswers_none rest _))⟩
  | n + 3 =>
    simp only [List.take_succ_cons, List.map_cons, List.cons_append]
    rw [readAnswers_sync1_hit _ rfl, readAnswers_sync2_hit _ rfl, readAnswers_length _ _ rfl]
    have hcnt : (Config.lenVal - 1#8).toNat = 46 := rfl
    have hlen : (body.take n).length ≤ (Config.lenVal - 1#8).toNat := by
      rw [List.length_take, hcnt]
      omega
    exact readAnswers_body_gap (body.take n) rest _ rfl hlen

/-- Offsets 0 to 2 of a frame, and the 47 bytes behind them. -/
theorem toList_eq_header_cons (f : Frame) : f.toList = f[0] :: f[1] :: f[2] :: f.toList.drop 3 := by
  have hlen : f.toList.length = 50 := Vector.length_toList
  rw [← List.drop_zero (l := f.toList), List.drop_eq_getElem_cons (by omega),
    List.drop_eq_getElem_cons (by omega), List.drop_eq_getElem_cons (by omega)]
  simp

/-! ### The statements -/

/-- Settles O16: each of the four steps writes RX.STATE or nothing. -/
theorem syncHuntMovesReaderStateOnly : Obligations.SyncHuntMovesReaderStateOnly :=
  fun b s => ⟨exec_rxSync1Hit s, exec_rxSync1Skip b s, exec_rxSync2Hit s, exec_rxSync2Miss b s⟩

/-- Settles O17: the length byte goes to RX.CNT as it is. -/
theorem lengthByteLoadsCounter : Obligations.LengthByteLoadsCounter := exec_rxLen

/-- Settles O22: the source begins with a frame's header and part of its body, on which the run fails with
`rest` left, and a failed run writes nothing persistent. -/
theorem gapBeforeLastByteFails : Obligations.GapBeforeLastByteFails := by
  intro f k rest s h0 h1 h2 hk hsource
  rw [toList_eq_header_cons f, h0, h1, h2] at hsource
  obtain ⟨r, hrun⟩ := readRun_frame_gap (f.toList.drop 3) k rest hk
  exact ⟨r, exec_rxRead_of_fail (hsource ▸ hrun)⟩

end Sys2Proof.Machine
end

section
/-! Proofs about the Command Router (`45_command_router.md`): which commands are accepted. -/

namespace Sys2Proof.Machine

/-! ### What each operation leaves: one equation per instruction -/

theorem exec_cmdMode (v : Byte) (s : State) :
    exec (.cmdMode v) s = .next (routeCommand { s.lks with mode := v } s) := rfl

theorem exec_cmdTemp (v : Byte) (s : State) :
    exec (.cmdTemp v) s = .next (routeCommand { s.lks with temp := v } s) := rfl

theorem exec_cmdFan (v : Byte) (s : State) :
    exec (.cmdFan v) s = .next (routeCommand { s.lks with fan := v } s) := rfl

/-! ### The common end of the six controls (R156, R164, R165), one equation per case -/

theorem routeCommand_of_valid {c : DeviceState} (s : State) (hc : isValid c = true) :
    routeCommand c s = { s with cfg := encodeCfg c s.cfg, pend := true } := by
  obtain ⟨hinvalid, -⟩ | ⟨-, hroute⟩ := routeCommand_cases c s
  · exact absurd hinvalid (by simp [hc])
  · exact hroute

theorem routeCommand_of_not_valid {c : DeviceState} (s : State) (hc : ¬ isValid c = true) :
    routeCommand c s = s := by
  obtain ⟨-, hroute⟩ | ⟨hvalid, -⟩ := routeCommand_cases c s
  · exact hroute
  · exact absurd hvalid hc

/-- An accepted command leaves CFG as CFG.ENC of its candidate does, and PEND 1. -/
theorem exec_command_of_valid {i : Instr} {c : DeviceState} {s : State}
    (hexec : exec i s = .next (routeCommand c s)) (hc : isValid c = true) :
    ∃ blk : Block, exec (.cfgEnc c) s = .next { s with cfg := blk } ∧
      exec i s = .next { s with cfg := blk, pend := true } :=
  ⟨encodeCfg c s.cfg, exec_cfgEnc_of_valid s hc, by rw [hexec, routeCommand_of_valid s hc]⟩

theorem exec_command_of_not_valid {i : Instr} {c : DeviceState} {s : State}
    (hexec : exec i s = .next (routeCommand c s)) (hc : ¬ isValid c = true) :
    exec i s = .next s := by
  rw [hexec, routeCommand_of_not_valid s hc]

/-! ### When a candidate is valid: LKS's other fields are within their bounds, so the changed one decides -/

theorem isValid_mode_iff {d : DeviceState} (v : Byte) (hd : isValid d = true) :
    isValid { d with mode := v } = true ↔ v.toNat ≤ 5 := by
  obtain ⟨-, htempLo, htempHi, hfan⟩ := (isValid_iff d).mp hd
  simp [isValid_iff, htempLo, htempHi, hfan]

theorem isValid_temp_iff {d : DeviceState} (v : Byte) (hd : isValid d = true) :
    isValid { d with temp := v } = true ↔ 16 ≤ v.toNat ∧ v.toNat ≤ 30 := by
  obtain ⟨hmode, -, -, hfan⟩ := (isValid_iff d).mp hd
  simp [isValid_iff, hmode, hfan]

theorem isValid_fan_iff {d : DeviceState} (v : Byte) (hd : isValid d = true) :
    isValid { d with fan := v } = true ↔ v.toNat ≤ 5 := by
  obtain ⟨hmode, htempLo, htempHi, -⟩ := (isValid_iff d).mp hd
  simp [isValid_iff, hmode, htempLo, htempHi]

/-! ### The mode CMD.XHM commands (R158) -/

theorem xhmToMode_eq_ite_toNat (v : Byte) :
    xhmToMode v = if v.toNat = 1 then 5#8 else if v.toNat = 2 then 2#8 else 0#8 := by
  simp [xhmToMode, BitVec.toNat_eq]

/-- CMD.XHM is never discarded because each of the three modes it maps to is within the bound. -/
theorem xhmToMode_toNat_le (v : Byte) : (xhmToMode v).toNat ≤ 5 := by
  unfold xhmToMode
  split
  case isTrue => decide
  case isFalse => split <;> decide

/-! ### The statements -/

/-- Settles O33: each command routes LKS with one field changed, a candidate valid iff the value is in that
field's range. -/
theorem numericCommandsAcceptedIffInRange : Obligations.NumericCommandsAcceptedIffInRange := by
  intro v s hlks
  have hmode := isValid_mode_iff v hlks
  have htemp := isValid_temp_iff v hlks
  have hfan := isValid_fan_iff v hlks
  refine ⟨?modeIn, ?modeOut, ?tempIn, ?tempOut, ?fanIn, ?fanOut⟩
  case modeIn => exact fun hv => exec_command_of_valid (exec_cmdMode v s) (hmode.mpr hv)
  case modeOut =>
    exact fun hv => exec_command_of_not_valid (exec_cmdMode v s) (by rw [hmode]; omega)
  case tempIn => exact fun hv => exec_command_of_valid (exec_cmdTemp v s) (htemp.mpr hv)
  case tempOut =>
    exact fun hv => exec_command_of_not_valid (exec_cmdTemp v s) (by rw [htemp]; omega)
  case fanIn => exact fun hv => exec_command_of_valid (exec_cmdFan v s) (hfan.mpr hv)
  case fanOut =>
    exact fun hv => exec_command_of_not_valid (exec_cmdFan v s) (by rw [hfan]; omega)

/-- Settles O34: CMD.XHM is CMD.MODE of the mapped value, which is a valid mode whatever the value. -/
theorem xhmCommandAlwaysAccepted : Obligations.XhmCommandAlwaysAccepted := by
  intro v s hlks
  rw [← xhmToMode_eq_ite_toNat, exec_cmdXhm_eq_exec_cmdMode]
  exact exec_command_of_valid (exec_cmdMode (xhmToMode v) s)
    ((isValid_mode_iff _ hlks).mpr (xhmToMode_toNat_le v))

end Sys2Proof.Machine
end

section
/-! Proofs about the exceptions and the status (`60_exceptions.md`): the precedence of the aggregate status. -/

namespace Sys2Proof.Machine

/-! ### The aggregate status (R184), one equation per rank of the precedence -/

@[simp] theorem aggregateStatus_transportDown (busDown airErr : Bool) :
    aggregateStatus true busDown airErr = .transport := rfl

@[simp] theorem aggregateStatus_busDown (airErr : Bool) : aggregateStatus false true airErr = .bus := rfl

@[simp] theorem aggregateStatus_airErr : aggregateStatus false false true = .device := rfl

@[simp] theorem aggregateStatus_none : aggregateStatus false false false = .ok := rfl

/-! ### The statements -/

/-- Settles O58: the block's AIR_ERR decides only where the host reports neither transport nor bus down. -/
theorem statusPrecedence : Obligations.StatusPrecedence := by
  intro busDown s
  refine ⟨?transport, ?bus, ?device, ?ok⟩
  case transport => exact aggregateStatus_transportDown busDown s.airErr
  case bus => exact aggregateStatus_busDown s.airErr
  case device => intro hair; rw [statusOf, hair, aggregateStatus_airErr]
  case ok => intro hair; rw [statusOf, hair, aggregateStatus_none]

end Sys2Proof.Machine
end

section
/-! Proofs about the encoding (`30_encoding.md`): decoder against encoder, the frame patterns, sample
words and the host's value. -/

namespace Sys2Proof.Machine

open Sys2Proof.Laws

/-! ### The command word (R62) -/

/-- A command word is its two fields and nothing else. -/
theorem cmdWord_extract (w : BitVec 11) :
    cmdWord (w.extractLsb' 8 3) (w.extractLsb' 0 8) = w := by
  apply BitVec.eq_of_getLsbD_eq
  intro i hi
  simp only [cmdWord, BitVec.getLsbD_append, BitVec.getLsbD_extractLsb']
  by_cases hval : i < 8
  · simp [hval]
  · have hctl : i - 8 < 3 := by omega
    have hpos : 8 + (i - 8) = i := by omega
    simp [hval, hctl, hpos]

/-- The eight selectors of a command word: six controls and the two reserved ones (R62, R166). -/
theorem selector_cases (ctl : BitVec 3) :
    ctl = 0#3 ∨ ctl = 1#3 ∨ ctl = 2#3 ∨ ctl = 3#3 ∨ ctl = 4#3 ∨ ctl = 5#3 ∨ ctl = 6#3 ∨ ctl = 7#3 := by
  revert ctl
  decide

theorem decodeCmdw_cmdWord {ctl : BitVec 3} {v : Byte} {i : Instr}
    (h : decode (encodeCmdw ctl v) = .ok i) : decodeCmdw (cmdWord ctl v) = i :=
  Except.ok.inj h

theorem encode_decodeCmdw_cmdWord (ctl : BitVec 3) (v : Byte) :
    encode (decodeCmdw (cmdWord ctl v)) = some (.cmdw (cmdWord ctl v)) := by
  rw [decodeCmdw_cmdWord (decode_encodeCmdw ctl v)]
  obtain rfl | rfl | rfl | rfl | rfl | rfl | rfl | rfl := selector_cases ctl <;> rfl

/-! ### The received byte (R63) -/

theorem encode_decodeRxByte (st : RxState) (b : Byte) :
    encode (decodeRxByte st b) = some (.rxbyte st (some b)) := by
  cases st with
  | waitSync1 => by_cases hb : b = Config.sync <;> simp [decodeRxByte, hb, encode]
  | waitSync2 => by_cases hb : b = Config.sync <;> simp [decodeRxByte, hb, encode]
  | readLength => rfl
  | readBody => rfl

/-! ### The frame pattern (R54, R73) -/

/-- A pattern matches a row iff the two tests of the decoder pass: the fixed head, and the command byte. -/
theorem matchesFrameRow_iff (bytes : List Byte) (cmd : Byte) :
    MatchesFrameRow bytes cmd ↔
      bytes.length = 50 ∧ bytes.take 7 = frameHead ∧ bytes[7]? = some cmd := by
  refine and_congr_right fun hlen => ?_
  have hlt : 7 < bytes.length := by omega
  have hsplit : bytes.take 8 = bytes.take 7 ++ [bytes[7]] := (List.take_concat_get' bytes 7 hlt).symm
  have hrow : [0x7E#8, 0x7E#8, 0x2F#8, 0x01#8, 0x00#8, 0x00#8, 0x00#8, cmd] = frameHead ++ [cmd] := rfl
  rw [hsplit, hrow, List.getElem?_eq_getElem hlt, Option.some_inj]
  refine ⟨fun h => ?_, fun ⟨hhead, hcmd⟩ => by rw [hhead, hcmd]⟩
  obtain ⟨hhead, hcmd⟩ := List.append_inj' h rfl
  exact ⟨hhead, List.singleton_inj.mp hcmd⟩

theorem decodeFrame_set {bytes : List Byte} (h : MatchesFrameRow bytes Config.cmdSet) :
    decodeFrame bytes = .ok .frameSet := by
  obtain ⟨hlen, hhead, hcmd⟩ := (matchesFrameRow_iff _ _).mp h
  rw [decodeFrame, if_neg (not_not.mpr hlen), if_neg (not_not.mpr hhead), if_pos hcmd]

theorem decodeFrame_query {bytes : List Byte} (h : MatchesFrameRow bytes Config.cmdQuery) :
    decodeFrame bytes = .ok .frameQuery := by
  obtain ⟨hlen, hhead, hcmd⟩ := (matchesFrameRow_iff _ _).mp h
  have hset : bytes[7]? ≠ some Config.cmdSet := by rw [hcmd]; decide
  rw [decodeFrame, if_neg (not_not.mpr hlen), if_neg (not_not.mpr hhead), if_neg hset, if_pos hcmd]

/-- The decoder's three rejections are the three ways to match neither row. -/
theorem decodeFrame_error {bytes : List Byte} (hset : ¬ MatchesFrameRow bytes Config.cmdSet)
    (hquery : ¬ MatchesFrameRow bytes Config.cmdQuery) : ∃ err, decodeFrame bytes = .error err := by
  rw [matchesFrameRow_iff] at hset hquery
  by_cases hlen : bytes.length = 50
  · by_cases hhead : bytes.take 7 = frameHead
    · have hset' : bytes[7]? ≠ some Config.cmdSet := fun h => hset ⟨hlen, hhead, h⟩
      have hquery' : bytes[7]? ≠ some Config.cmdQuery := fun h => hquery ⟨hlen, hhead, h⟩
      exact ⟨.frameCommandByteUnknown, by
        rw [decodeFrame, if_neg (not_not.mpr hlen), if_neg (not_not.mpr hhead), if_neg hset',
          if_neg hquery']⟩
    · exact ⟨.frameFixedPartWrong, by rw [decodeFrame, if_neg (not_not.mpr hlen), if_pos hhead]⟩
  · exact ⟨.frameNotFiftyBytes, by rw [decodeFrame, if_pos hlen]⟩

/-! ### The statements -/

/-- Settles O45, constructor by constructor: an operation's encoding holds its operands, and the decoder
reads them back. -/
theorem decodeEncodeAgree : Obligations.DecodeEncodeAgree := by
  intro i e
  cases i with
  | checksum f => exact EncodeDecode.checksum f e
  | frameQuery => exact EncodeDecode.frameQuery e
  | frameSet => exact EncodeDecode.frameSet e
  | frameExtract f => exact EncodeDecode.frameExtract f e
  | isValid d => exact EncodeDecode.isValid d e
  | fanq f => exact EncodeDecode.fanq f e
  | cfgDec blk => exact EncodeDecode.cfgDec blk e
  | cfgEnc d => exact EncodeDecode.cfgEnc d e
  | rxRead => exact EncodeDecode.rxRead e
  | rxSync1Hit => exact EncodeDecode.rxSync1Hit e
  | rxSync1Skip b => exact EncodeDecode.rxSync1Skip b e
  | rxSync2Hit => exact EncodeDecode.rxSync2Hit e
  | rxSync2Miss b => exact EncodeDecode.rxSync2Miss b e
  | rxLen b => exact EncodeDecode.rxLen b e
  | rxBody b => exact EncodeDecode.rxBody b e
  | rxEmpty => exact EncodeDecode.rxEmpty e
  | schedTick now => exact EncodeDecode.schedTick now e
  | pollFire now => exact EncodeDecode.pollFire now e
  | syncUpdate d => exact EncodeDecode.syncUpdate d e
  | xhm mode => exact EncodeDecode.xhm mode e
  | cmdMode v => exact EncodeDecode.cmdMode v e
  | cmdXhm v => exact EncodeDecode.cmdXhm v e
  | cmdTemp v => exact EncodeDecode.cmdTemp v e
  | cmdFan v => exact EncodeDecode.cmdFan v e
  | cmdSwing v => exact EncodeDecode.cmdSwing v e
  | cmdLight v => exact EncodeDecode.cmdLight v e
  | cmdRsvd sel v => exact EncodeDecode.cmdRsvd sel v e
  | reset => exact EncodeDecode.reset e

/-- Settles O46: a command word is the word of its two fields, whose operation is encoded with both
again. -/
theorem encodeDecodeAgree : Obligations.EncodeDecodeAgree := by
  refine ⟨?cmdw, encode_decodeRxByte, fun _ => ⟨rfl, rfl⟩, rfl, rfl⟩
  case cmdw =>
    intro w
    rw [← cmdWord_extract w]
    exact encode_decodeCmdw_cmdWord _ _

/-- Settles O60: the decoder's tests are those of the two rows, which do not look at the other 42 bytes. -/
theorem framePatternsDecodeByOffsets0To7 : Obligations.FramePatternsDecodeByOffsets0To7 :=
  fun _ => ⟨decodeFrame_set, decodeFrame_query, decodeFrame_error⟩

/-- Settles O47: each word is closed and the decoder evaluates it. -/
theorem sampleWordsDecode : Obligations.SampleWordsDecode := by
  unfold Obligations.SampleWordsDecode
  decide

/-- Settles O59, by the test of the presented value: within 8 bits, or not. -/
theorem hostValueSaturates : Obligations.HostValueSaturates := by
  intro n
  refine ⟨?fits, ?saturates⟩
  case fits =>
    intro hlo hhi
    rw [presentValue, if_pos ⟨hlo, hhi⟩, BitVec.toNat_ofInt]
    omega
  case saturates =>
    intro hout
    rw [presentValue, if_neg (by omega), BitVec.toNat_ofNat]

end Sys2Proof.Machine
end

section
/-! Proofs about the Frame Codec (`40_frame_codec.md`): the closed form of the checksum, set against
query frame, extract after build. -/

namespace Sys2Proof.Machine

/-! ### The checksum in closed form (R79, R80) -/

/-- The 46 summed offsets of a frame are its length, its four fixed bytes and its command byte, the
block, and the first 24 bytes of POSTFIX. -/
theorem FrameLayout.sum_eq {f : Frame} {blk : Block} {cmd : Byte} (h : FrameLayout f blk cmd) :
    (∑ k : Fin 46, (f[k.val + 2]).toNat) = 0x30 + cmd.toNat + (∑ i : Fin 16, (blk[i.val]).toNat)
      + (∑ j : Fin 24, (Config.postfixBytes[j.val]).toNat) := by
  obtain ⟨-, -, h2, h3, h4, h5, h6, h7, hblock, htail, -⟩ := h
  have hsplit := Fin.sum_univ_add (a := 6) (b := 40) fun k : Fin 46 => (f[k.val + 2]).toNat
  have hsplit' := Fin.sum_univ_add (a := 16) (b := 24) fun k : Fin 40 => (f[6 + k.val + 2]).toNat
  have hheader : (∑ k : Fin 6, (f[k.val + 2]).toNat) = 0x30 + cmd.toNat := by
    simp [Fin.sum_univ_succ, h2, h3, h4, h5, h6, h7]
    omega
  have hmiddle : (∑ i : Fin 16, (f[6 + i.val + 2]).toNat) = ∑ i : Fin 16, (blk[i.val]).toNat :=
    Finset.sum_congr rfl fun i _ => by
      have hoffset : 6 + i.val + 2 = 8 + i.val := by omega
      simp only [hoffset, hblock i]
  have hpostfix : (∑ j : Fin 24, (f[6 + (16 + j.val) + 2]).toNat)
      = ∑ j : Fin 24, (Config.postfixBytes[j.val]).toNat :=
    Finset.sum_congr rfl fun j _ => by
      have hoffset : 6 + (16 + j.val) + 2 = 24 + j.val := by omega
      have hbyte : f[24 + j.val] = Config.postfixBytes[j.val] := htail j.castSucc
      simp only [hoffset, hbyte]
  simp only [Fin.val_castAdd, Fin.val_natAdd] at hsplit hsplit'
  rw [hsplit, hsplit', hheader, hmiddle, hpostfix, Nat.add_assoc (0x30 + cmd.toNat)]

theorem buildFrame_checksum_toNat (blk : Block) (isSet : Bool) :
    (buildFrame Config.postfixBytes blk isSet)[49].toNat =
      (0x30 + (if isSet then Config.cmdSet else Config.cmdQuery).toNat
        + (∑ i : Fin 16, (blk[i.val]).toNat)
        + (∑ j : Fin 24, (Config.postfixBytes[j.val]).toNat)) % 256 := by
  have hlayout := buildFrame_layout blk isSet
  rw [← hlayout.sum_eq, buildFrame_checksum, checksum_toNat]

theorem buildFrame_checksum_set (blk : Block) :
    (buildFrame Config.postfixBytes blk true)[49] =
      (buildFrame Config.postfixBytes blk false)[49] + Config.cmdSet := by
  apply BitVec.eq_of_toNat_eq
  rw [BitVec.toNat_add, buildFrame_checksum_toNat, buildFrame_checksum_toNat]
  simp
  omega

/-! ### Set frame against query frame -/

/-- The frame map looks at the flag at offset 7 only. -/
theorem frameByte_of_ne_seven (pf : Vector Byte 25) (blk : Block) (isSet isSet' : Bool) {k : Fin 50}
    (hk : k.val ≠ 7) : frameByte pf blk isSet k = frameByte pf blk isSet' k := by
  simp only [frameByte, if_neg hk]

theorem buildFrame_differ_iff (blk : Block) (k : Nat) (hk : k < 50) :
    (buildFrame Config.postfixBytes blk false)[k] ≠ (buildFrame Config.postfixBytes blk true)[k] ↔
      k = 7 ∨ k = 49 := by
  by_cases h7 : k = 7
  · have hcmd : Config.cmdQuery ≠ Config.cmdSet := by decide
    subst h7
    simp [buildFrame_getElem, frameByte, hcmd]
  by_cases h49 : k = 49
  · have hcmd : Config.cmdSet ≠ 0#8 := by decide
    subst h49
    rw [buildFrame_checksum_set]
    simp [hcmd]
  · rw [buildFrame_getElem _ _ _ _ (by omega), buildFrame_getElem _ _ _ _ (by omega),
      frameByte_of_ne_seven _ _ false true h7]
    simp [h7, h49]

/-! ### The statements -/

/-- Settles O3: the frame's layout fixes every byte the checksum sums. -/
theorem frameChecksumClosedForm : Obligations.FrameChecksumClosedForm :=
  fun s => ⟨_, _, exec_frameQuery s, exec_frameSet s, buildFrame_checksum_toNat s.cfg false,
    buildFrame_checksum_toNat s.cfg true⟩

/-- Settles O4: the frame map differs at offset 7 only, and the checksum by the command byte. -/
theorem setAndQueryDifferInTwoBytes : Obligations.SetAndQueryDifferInTwoBytes :=
  fun s => ⟨_, _, exec_frameQuery s, exec_frameSet s,
    fun k => buildFrame_differ_iff s.cfg k.val k.isLt, buildFrame_checksum_set s.cfg⟩

/-- Settles O6: what the build puts at offsets 8 to 23 is what the extraction copies. -/
theorem extractAfterBuild : Obligations.ExtractAfterBuild := by
  intro pf blk isSet
  ext i hi : 1
  rw [extractBlock_getElem, buildFrame_block]

end Sys2Proof.Machine
end

section
/-! Proofs about the Configuration Bit-Packer (`41_bit_packer.md`): the places decode reads and encode
writes, an encode over an encode. -/

namespace Sys2Proof.Machine

/-! ### The refusal (R103) -/

theorem exec_cfgEnc_of_not_valid {d : DeviceState} (s : State) (hd : isValid d = false) :
    exec (.cfgEnc d) s = .refused .encodeOfInvalidState := by
  rw [exec_cfgEnc, encodeInto, if_neg (by simp [hd])]

/-! ### The fields decode reads, as numbers (R89 to R91) -/

theorem decTemp_toNat (blk : Block) : (decTemp blk).toNat = blk[1].toNat / 16 + 16 := by
  have hb := blk[1].isLt
  rw [decTemp, BitVec.toNat_add, BitVec.toNat_setWidth, hiNibble_toNat]
  simp only [BitVec.toNat_ofNat]
  omega

theorem decFan_toNat (blk : Block) : (decFan blk).toNat = blk[14].toNat % 16 := by
  rw [decFan, BitVec.toNat_setWidth, loNibble_toNat]
  omega

theorem decSwing_iff (blk : Block) : decSwing blk = true ↔ 0 < blk[4].toNat / 16 := by
  rw [decSwing, decide_eq_true_iff, BitVec.lt_def, hiNibble_toNat, BitVec.toNat_ofNat]

/-! ### The targets encode writes, as numbers (R95 to R100) -/

@[simp] theorem loNibble_joinNibbles (h l : Nibble) : loNibble (joinNibbles h l) = l := by
  apply BitVec.eq_of_toNat_eq
  have hl := l.isLt
  rw [loNibble_toNat, joinNibbles_toNat]
  omega

theorem encByte0_toNat_div (d : DeviceState) :
    (encByte0 d).toNat / 16 = (encModeCode d.mode).toNat := by
  rw [encByte0, ← hiNibble_toNat, hiNibble_joinNibbles]

theorem encByte0_toNat_mod (d : DeviceState) : (encByte0 d).toNat % 16 = (fanQuant d.fan).toNat := by
  rw [encByte0, ← loNibble_toNat, loNibble_joinNibbles]

/-- The quantizer's three cases in one equation (R87). -/
theorem fanQuant_toNat (f : Byte) :
    (fanQuant f).toNat = if f.toNat < 3 then f.toNat else if f.toNat = 3 then 2 else 3 := by
  split_ifs with hlt heq
  · exact fanQuant_toNat_of_lt hlt
  · rw [fanQuant_of_eq heq]; rfl
  · rw [fanQuant_of_gt (by omega)]; rfl

theorem encByte1_toNat {d : DeviceState} (old : Byte) (hlo : 16 ≤ d.temp.toNat)
    (hhi : d.temp.toNat ≤ 30) : (encByte1 d old).toNat = 16 * (d.temp.toNat - 16) + old.toNat % 16 := by
  rw [← hiNibble_encByte1_toNat old hlo hhi, encByte1, joinNibbles_toNat, hiNibble_joinNibbles,
    loNibble_toNat]

/-- Bit 1 of byte 2 is light, the others as they were (R98). -/
theorem encByte2_getLsbD (d : DeviceState) (old : Byte) (j : Fin 8) :
    (encByte2 d old).getLsbD j.val = if j.val = 1 then d.light else old.getLsbD j.val := by
  fin_cases j <;> cases hlight : d.light <;> simp [encByte2, boolByte, hlight]

theorem encByte4_toNat (d : DeviceState) : (encByte4 d).toNat = 16 * d.swing.toNat := by
  rw [encByte4]
  cases d.swing <;> rfl

/-- A reserved byte is none of the five targets (R15, R102). -/
theorem encodeCfg_reserved (d : DeviceState) (blk : Block) (k : Nat) (hk : k < 16)
    (hres : reservedByte k = true) : (encodeCfg d blk)[k] = blk[k] := by
  have hplace : k = 3 ∨ (5 ≤ k ∧ k ≤ 13) ∨ k = 15 := by simpa [reservedByte, or_assoc] using hres
  apply encodeCfg_other <;> omega

/-! ### An encode over an encode (R108) -/

theorem encByte1_encByte1 (d e : DeviceState) (old : Byte) :
    encByte1 e (encByte1 d old) = encByte1 e old := by
  rw [encByte1, encByte1, loNibble_joinNibbles, ← encByte1]

theorem encByte2_encByte2 (d e : DeviceState) (old : Byte) :
    encByte2 e (encByte2 d old) = encByte2 e old := by
  apply BitVec.eq_of_getLsbD_eq
  intro j hj
  rw [encByte2_getLsbD e _ ⟨j, hj⟩, encByte2_getLsbD d _ ⟨j, hj⟩, encByte2_getLsbD e _ ⟨j, hj⟩]
  split_ifs <;> rfl

/-- What an encode preserves of the old block, an earlier encode preserved too. -/
theorem encodeCfg_encodeCfg (d e : DeviceState) (blk : Block) :
    encodeCfg e (encodeCfg d blk) = encodeCfg e blk := by
  ext k hk : 1
  by_cases h0 : k = 0
  · subst h0; rw [encodeCfg_get0, encodeCfg_get0]
  by_cases h1 : k = 1
  · subst h1; rw [encodeCfg_get1, encodeCfg_get1, encodeCfg_get1, encByte1_encByte1]
  by_cases h2 : k = 2
  · subst h2; rw [encodeCfg_get2, encodeCfg_get2, encodeCfg_get2, encByte2_encByte2]
  by_cases h4 : k = 4
  · subst h4; rw [encodeCfg_get4, encodeCfg_get4]
  by_cases h14 : k = 14
  · subst h14; rw [encodeCfg_get14, encodeCfg_get14]
  · simp only [encodeCfg_other _ _ k hk h0 h1 h2 h4 h14]

/-! ### The statements -/

/-- Settles O9, field by field. -/
theorem decodeReadsFiveFields : Obligations.DecodeReadsFiveFields := by
  intro blk s
  refine ⟨decodeCfg blk, exec_cfgDec blk s, ?mode, decTemp_toNat blk, decFan_toNat blk,
    decSwing_iff blk, rfl⟩
  case mode =>
    have hmode := decMode_toNat blk
    rwa [hiNibble_toNat] at hmode

/-- Settles O10, target by target. -/
theorem encodeWritesItsTargets : Obligations.EncodeWritesItsTargets := by
  intro d s hd
  obtain ⟨hmode, htempLo, htempHi, hfan⟩ := (isValid_iff d).mp hd
  refine ⟨encodeCfg d s.cfg, exec_cfgEnc_of_valid s hd, ?mode, ?quantized, ?temp, ?light, ?swing, ?fan,
    ?reserved⟩
  case mode => rw [encodeCfg_get0, encByte0_toNat_div, encModeCode_toNat hmode]
  case quantized => rw [encodeCfg_get0, encByte0_toNat_mod, fanQuant_toNat]
  case temp => rw [encodeCfg_get1, encByte1_toNat _ htempLo htempHi]
  case light => intro j; rw [encodeCfg_get2, encByte2_getLsbD]
  case swing => rw [encodeCfg_get4, encByte4_toNat]
  case fan =>
    rw [encodeCfg_get14, encByte14]
    omega
  case reserved => exact fun i hres => encodeCfg_reserved d s.cfg i.val i.isLt hres

/-- Settles O11: the byte written is fan, whose bound leaves the high nibble 0. -/
theorem encodeClearsByte14HighNibble : Obligations.EncodeClearsByte14HighNibble := by
  intro d s hd
  obtain ⟨-, -, -, hfan⟩ := (isValid_iff d).mp hd
  have hbyte : (encodeCfg d s.cfg)[14] = d.fan := encodeCfg_get14 d s.cfg
  refine ⟨writeCfg (encodeCfg d s.cfg) s, exec_cfgEnc_of_valid s hd, hbyte, ?highNibble⟩
  case highNibble =>
    rw [writeCfg_cfg, hbyte]
    omega

/-- Settles O12: the check of R103 comes before any write. -/
theorem encodeOfInvalidStateRefused : Obligations.EncodeOfInvalidStateRefused :=
  fun _ s hd => exec_cfgEnc_of_not_valid s hd

/-- Settles O14: both ends hold the second encode of the same preserved bits. -/
theorem lastEncodeWins : Obligations.LastEncodeWins := by
  intro d e s hd he
  refine ⟨_, _, exec_cfgEnc_of_valid s hd, exec_cfgEnc_of_valid _ he, ?alone⟩
  case alone =>
    rw [exec_cfgEnc_of_valid s he, writeCfg_cfg, encodeCfg_encodeCfg]
    rfl

end Sys2Proof.Machine
end

section
/-! Proofs about the State Synchronizer (`44_state_synchronizer.md`). -/

namespace Sys2Proof.Machine

/-! ### What each operation leaves: one equation per instruction -/

theorem exec_syncUpdate (d : DeviceState) (s : State) :
    exec (.syncUpdate d) s = .next (synchronize d s) := rfl

theorem exec_xhm (mode : Byte) (s : State) :
    exec (.xhm mode) s = .next { s with ret := .byte (xhmOf mode) } := rfl

/-! ### SYNC.UPDATE (R146), one equation per case -/

theorem synchronize_of_dropped {d : DeviceState} {s : State} (h : isValid d = false ∨ d = s.lks) :
    synchronize d s = s := by
  obtain ⟨-, hdrop⟩ | ⟨hvalid, hne, -⟩ := synchronize_cases d s
  · exact hdrop
  · obtain hinvalid | heq := h
    · exact absurd hvalid (by simp [hinvalid])
    · exact absurd heq hne

theorem synchronize_of_latched {d : DeviceState} {s : State} (hvalid : isValid d = true)
    (hne : d ≠ s.lks) :
    synchronize d s = { s with lks := d, trace := s.trace ++ [.pub (publishedOf d)] } := by
  obtain ⟨hinvalid | heq, -⟩ | ⟨-, -, hlatch⟩ := synchronize_cases d s
  · exact absurd hvalid (by simp [hinvalid])
  · exact absurd heq hne
  · exact hlatch

/-! ### What SYNC.UPDATE leaves in each field: LKS and the trace alone are written (R153) -/

theorem synchronize_eq (d : DeviceState) (s : State) :
    synchronize d s = { s with lks := (synchronize d s).lks, trace := (synchronize d s).trace } := by
  obtain ⟨-, h⟩ | ⟨-, -, h⟩ := synchronize_cases d s <;> rw [h]

@[simp] theorem synchronize_cfg (d : DeviceState) (s : State) : (synchronize d s).cfg = s.cfg := by
  rw [synchronize_eq]
@[simp] theorem synchronize_pend (d : DeviceState) (s : State) : (synchronize d s).pend = s.pend := by
  rw [synchronize_eq]
@[simp] theorem synchronize_airErr (d : DeviceState) (s : State) :
    (synchronize d s).airErr = s.airErr := by
  rw [synchronize_eq]
@[simp] theorem synchronize_tLast (d : DeviceState) (s : State) : (synchronize d s).tLast = s.tLast := by
  rw [synchronize_eq]
@[simp] theorem synchronize_txf (d : DeviceState) (s : State) : (synchronize d s).txf = s.txf := by
  rw [synchronize_eq]
@[simp] theorem synchronize_inbox (d : DeviceState) (s : State) : (synchronize d s).inbox = s.inbox := by
  rw [synchronize_eq]
@[simp] theorem synchronize_phase (d : DeviceState) (s : State) : (synchronize d s).phase = s.phase := by
  rw [synchronize_eq]

/-- SYNC.UPDATE sends nothing. -/
@[simp] theorem synchronize_sentBytes (d : DeviceState) (s : State) :
    sentBytes (synchronize d s).trace = sentBytes s.trace := by
  obtain ⟨-, h⟩ | ⟨-, -, h⟩ := synchronize_cases d s <;> simp [h]

theorem synchronize_trace_prefix (d : DeviceState) (s : State) : s.trace <+: (synchronize d s).trace := by
  obtain ⟨-, h⟩ | ⟨-, -, h⟩ := synchronize_cases d s <;> simp [h]

/-- What SYNC.UPDATE writes to LKS is valid. -/
theorem synchronize_lks_valid {d : DeviceState} {s : State} (h : (synchronize d s).lks ≠ s.lks) :
    isValid (synchronize d s).lks = true := by
  obtain ⟨-, hdrop⟩ | ⟨hvalid, -, hlatch⟩ := synchronize_cases d s
  · exact absurd (congrArg State.lks hdrop) h
  · rwa [hlatch]

/-- A publish comes with a valid change of LKS and carries the new LKS (R152). -/
theorem synchronize_published (d : DeviceState) (s : State) :
    publishedEvents (synchronize d s).trace = publishedEvents s.trace ∨
    (isValid (synchronize d s).lks = true ∧ (synchronize d s).lks ≠ s.lks ∧
      publishedEvents (synchronize d s).trace =
        publishedEvents s.trace ++ [publishedOf (synchronize d s).lks]) := by
  obtain ⟨-, hdrop⟩ | ⟨hvalid, hne, hlatch⟩ := synchronize_cases d s
  · exact .inl (by rw [hdrop])
  · exact .inr (by simp [hlatch, hvalid, hne])

/-- Either LKS is the state just given, or the state was dropped; so giving it again changes nothing
(R151). -/
theorem synchronize_synchronize (d : DeviceState) (s : State) :
    synchronize d (synchronize d s) = synchronize d s := by
  obtain ⟨hdropped, h⟩ | ⟨-, -, h⟩ := synchronize_cases d s
  · rw [h, h]
  · exact synchronize_of_dropped (.inr (by rw [h]))

/-! ### The X-HM-Mode value (R150) -/

theorem xhmOf_eq_ite_toNat (mode : Byte) :
    xhmOf mode = if mode.toNat = 5 then 1#8 else if mode.toNat = 2 then 2#8 else 0#8 := by
  simp [xhmOf, BitVec.toNat_eq]

/-! ### The statements -/

/-- Settles O15: the value returned, by the mode byte's number. -/
theorem xhmValue : Obligations.XhmValue := by
  intro mode s
  refine ⟨xhmOf mode, exec_xhm mode s, ?five, ?two, ?other⟩
  case five => intro h5; rw [xhmOf_eq_ite_toNat, if_pos h5]
  case two => intro h2; rw [xhmOf_eq_ite_toNat, if_neg (by omega), if_pos h2]
  case other => intro h5 h2; rw [xhmOf_eq_ite_toNat, if_neg h5, if_neg h2]

/-- Settles O31, by the two cases of SYNC.UPDATE. -/
theorem syncUpdateLatchesAndPublishes : Obligations.SyncUpdateLatchesAndPublishes := by
  intro d s
  refine ⟨fun hdropped => ?dropped, fun hvalid hne => ⟨xhmOf d.mode, exec_xhm d.mode s, ?latched⟩⟩
  case dropped => rw [exec_syncUpdate, synchronize_of_dropped hdropped]
  case latched => rw [exec_syncUpdate, synchronize_of_latched hvalid hne, publishedOf]

/-- Settles O32: SYNC.UPDATE of the same state is idempotent. -/
theorem secondDecodeOfABlockIsSilent : Obligations.SecondDecodeOfABlockIsSilent := by
  intro blk s
  refine ⟨decodeCfg blk, synchronize (decodeCfg blk) s, exec_cfgDec blk s, exec_syncUpdate _ s, ?second⟩
  case second => rw [exec_syncUpdate, synchronize_synchronize]

end Sys2Proof.Machine
end

section
/-! Proofs about the Command Router (`45_command_router.md`): what every command does, and what a second
one makes of the first. -/

namespace Sys2Proof.Machine

/-! ### What each operation leaves: one equation per instruction -/

theorem exec_cmdSwing (v : Byte) (s : State) :
    exec (.cmdSwing v) s = .next (routeCommand { s.lks with swing := valToBool v } s) := rfl

theorem exec_cmdLight (v : Byte) (s : State) :
    exec (.cmdLight v) s = .next (routeCommand { s.lks with light := valToBool v } s) := rfl

theorem exec_cmdRsvd (sel : Bool) (v : Byte) (s : State) : exec (.cmdRsvd sel v) s = .next s := rfl

theorem valToBool_eq (v : Byte) : valToBool v = !decide (v.toNat = 0) := by
  simp [valToBool, BitVec.toNat_eq]

/-! ### Every command -/

/-- A command is CMD.RSVD, which does nothing in any state, or it routes a candidate that it forms from
LKS in a way that is its own (R156, R166). -/
theorem exec_command_form {i : Instr} (hi : isCommand i = true) :
    (∀ s, exec i s = .next s) ∨
    ∃ change : DeviceState → DeviceState, ∀ s, exec i s = .next (routeCommand (change s.lks) s) := by
  cases i with
  | cmdMode v => exact .inr ⟨fun l => { l with mode := v }, exec_cmdMode v⟩
  | cmdXhm v => exact .inr ⟨fun l => { l with mode := xhmToMode v }, exec_cmdMode (xhmToMode v)⟩
  | cmdTemp v => exact .inr ⟨fun l => { l with temp := v }, exec_cmdTemp v⟩
  | cmdFan v => exact .inr ⟨fun l => { l with fan := v }, exec_cmdFan v⟩
  | cmdSwing v => exact .inr ⟨fun l => { l with swing := valToBool v }, exec_cmdSwing v⟩
  | cmdLight v => exact .inr ⟨fun l => { l with light := valToBool v }, exec_cmdLight v⟩
  | cmdRsvd sel v => exact .inl (exec_cmdRsvd sel v)
  | _ => cases hi

/-- A command changes nothing, or encodes a valid candidate into CFG and sets PEND (R164, R165). -/
theorem exec_command_cases {i : Instr} (hi : isCommand i = true) (s : State) :
    exec i s = .next s ∨
    ∃ c, isValid c = true ∧ exec i s = .next { s with cfg := encodeCfg c s.cfg, pend := true } := by
  obtain hnone | ⟨change, hroute⟩ := exec_command_form hi
  · exact .inl (hnone s)
  · obtain ⟨-, hdiscard⟩ | ⟨hvalid, haccept⟩ := routeCommand_cases (change s.lks) s
    · exact .inl (by rw [hroute, hdiscard])
    · exact .inr ⟨_, hvalid, by rw [hroute, haccept]⟩

/-- After a command LKS is as it was, and what an encode makes of CFG is what it made of CFG before. -/
theorem exec_command_preserves {i : Instr} {s t : State} (hi : isCommand i = true)
    (h : exec i s = .next t) :
    t = { s with cfg := t.cfg, pend := t.pend } ∧ ∀ c, encodeCfg c t.cfg = encodeCfg c s.cfg := by
  obtain hsame | ⟨d, -, haccept⟩ := exec_command_cases hi s
  · obtain rfl : s = t := Host.Outcome.next.inj (hsame.symm.trans h)
    exact ⟨rfl, fun _ => rfl⟩
  · obtain rfl := Host.Outcome.next.inj (haccept.symm.trans h)
    exact ⟨rfl, fun c => encodeCfg_encodeCfg d c s.cfg⟩

/-! ### The statements -/

/-- Settles O35: neither field plays a part in validity, so LKS with it changed stays valid. -/
theorem booleanCommandsAlwaysAccepted : Obligations.BooleanCommandsAlwaysAccepted := by
  intro v s hlks
  rw [← valToBool_eq]
  exact ⟨exec_command_of_valid (exec_cmdSwing v s) hlks, exec_command_of_valid (exec_cmdLight v s) hlks⟩

/-- Settles O37: the operation's equation is the statement. -/
theorem reservedSelectorHasNoEffect : Obligations.ReservedSelectorHasNoEffect := exec_cmdRsvd

/-- Settles O38: an accepted command's encode leaves the reserved bytes, a discarded one leaves
everything. -/
theorem commandsWriteOnlyCfgAndPend : Obligations.CommandsWriteOnlyCfgAndPend := by
  intro i s hi
  obtain hsame | ⟨c, -, haccept⟩ := exec_command_cases hi s
  · exact ⟨s.cfg, s.pend, hsame, .inr rfl, fun _ _ => rfl⟩
  · exact ⟨encodeCfg c s.cfg, true, haccept, .inl rfl,
      fun k hres => encodeCfg_reserved c s.cfg k.val k.isLt hres⟩

/-- Settles O39: the second command's candidate comes from LKS, which the first left alone, and its
encode is over the first's. -/
theorem secondCommandOverridesTheFirst : Obligations.SecondCommandOverridesTheFirst := by
  intro i j s t u v hi hj hst htu hsv
  obtain ⟨hframe, hencode⟩ := exec_command_preserves hi hst
  obtain hnone | ⟨change, hroute⟩ := exec_command_form hj
  · exact .inr ⟨Host.Outcome.next.inj (htu.symm.trans (hnone t)),
      Host.Outcome.next.inj (hsv.symm.trans (hnone s))⟩
  · have hlks : t.lks = s.lks := by rw [hframe]
    obtain rfl : u = routeCommand (change s.lks) t :=
      Host.Outcome.next.inj (htu.symm.trans (hlks ▸ hroute t))
    obtain rfl : v = routeCommand (change s.lks) s := Host.Outcome.next.inj (hsv.symm.trans (hroute s))
    by_cases hvalid : isValid (change s.lks) = true
    · refine .inl ?_
      rw [routeCommand_of_valid t hvalid, routeCommand_of_valid s hvalid, hencode, hframe]
    · exact .inr ⟨routeCommand_of_not_valid t hvalid, routeCommand_of_not_valid s hvalid⟩

end Sys2Proof.Machine
end

section
/-! Proofs about RESET (`70_reset_and_hazards.md`). -/

namespace Sys2Proof.Machine

theorem exec_reset (s : State) : exec .reset s = .next (resetRegisters s) := rfl

/-- Settles O40, register by register. -/
theorem resetRestoresRegisters : Obligations.ResetRestoresRegisters := by
  intro s
  refine ⟨resetRegisters s, exec_reset s, ?cfg, rfl, rfl, rfl, rfl, rfl, rfl, rfl, rfl⟩
  case cfg =>
    intro k
    rw [resetRegisters_cfg, Vector.getElem_replicate]

/-- The sixteen zero bytes decode to the reset LKS: mode code 0 is mode 0, temperature code 0 is 16. -/
theorem decodeCfg_reset : decodeCfg State.reset.cfg = State.reset.lks := by decide

/-- Settles O41: what CFG.DEC returns is that decode. -/
theorem resetBlockDecodesToLks : Obligations.ResetBlockDecodesToLks :=
  ⟨_, exec_cfgDec _ _, congrArg Ret.device decodeCfg_reset⟩

end Sys2Proof.Machine
end

section
/-! Proofs about one step (`10_state.md`, the sequencing): what is taken next, and where a table word is
placed. -/

namespace Sys2Proof.Machine

/-! ### What is taken next, one equation per case of the sequencing -/

theorem fetch_rst {s : State} {rest : List Stimulus} (hinbox : s.inbox = .rst :: rest) :
    fetch s = some (.rst, { s with inbox := rest }) := by
  simp [fetch, hinbox, writeInbox]

theorem fetch_of_not_rst {s : State} (hrst : s.inbox.head? ≠ some .rst) : fetch s = takeByPhase s := by
  unfold fetch
  split
  next h => simp [h] at hrst
  next => rfl

theorem fetch_cmd {s : State} {w : BitVec 11} {rest : List Stimulus} (hphase : s.phase = .idle)
    (hinbox : s.inbox = .cmd w :: rest) : fetch s = some (.cmdw w, { s with inbox := rest }) := by
  rw [fetch_of_not_rst (by simp [hinbox])]
  simp [takeByPhase, hphase, takeStimulus, hinbox, writeInbox]

theorem fetch_tick {s : State} {now : Time} {rx : List Answer} {rest : List Stimulus}
    (hphase : s.phase = .idle) (hinbox : s.inbox = .tick now rx :: rest) :
    fetch s = some (.tick now, { s with
      inbox := rest, source := s.source.filter Option.isSome ++ rx }) := by
  rw [fetch_of_not_rst (by simp [hinbox])]
  simp [takeByPhase, hphase, takeStimulus, hinbox, writeInbox, listAnswers, writeSource, leftoverBytes]

theorem fetch_idle_empty {s : State} (hphase : s.phase = .idle) (hinbox : s.inbox = []) :
    fetch s = none := by
  rw [fetch_of_not_rst (by simp [hinbox])]
  simp [takeByPhase, hphase, takeStimulus, hinbox]

theorem fetch_answer {s : State} {a : Answer} {rest : List Answer} (hphase : s.phase = .reading)
    (hrst : s.inbox.head? ≠ some .rst) (hsource : s.source = a :: rest) :
    fetch s = some (.rxbyte s.rx.state a, { s with source := rest }) := by
  rw [fetch_of_not_rst hrst]
  simp [takeByPhase, hphase, rxNext, hsource, writeSource]

theorem fetch_no_answer {s : State} (hphase : s.phase = .reading)
    (hrst : s.inbox.head? ≠ some .rst) (hsource : s.source = []) :
    fetch s = some (.rxbyte s.rx.state none, s) := by
  rw [fetch_of_not_rst hrst]
  simp [takeByPhase, hphase, rxNext, hsource]

theorem fetch_frame {s : State} {bytes : List Byte} (hphase : s.phase = .building bytes)
    (hrst : s.inbox.head? ≠ some .rst) :
    fetch s = some (.frame50 bytes, { s with phase := .idle }) := by
  rw [fetch_of_not_rst hrst]
  simp [takeByPhase, hphase, writePhase]

/-! ### One step, by what is taken and what it decodes to -/

theorem step_of_fetch_none {s : State} (hfetch : fetch s = none) : step s = .next s := by
  simp [step, hfetch]

theorem step_of_decode {s s1 : State} {e : Encoded} {i : Instr} (hfetch : fetch s = some (e, s1))
    (hdecode : decode e = .ok i) : step s = exec i s1 := by
  simp [step, hfetch, hdecode]

theorem step_of_decode_error {s s1 : State} {e : Encoded} {err : DecodeError}
    (hfetch : fetch s = some (e, s1)) (hdecode : decode e = .error err) :
    step s = .refused (.undecodable err) := by
  simp [step, hfetch, hdecode]

theorem runSteps_one {s t : State} (h : step s = .next t) : runSteps 1 s = .next t :=
  runSteps_succ 0 s t h

/-! ### A placed table word (log entries 8 and 11) -/

/-- Dropping the waiting resets leaves no reset at the head. -/
theorem head?_dropWhile_rst (l : List Stimulus) :
    (l.dropWhile fun x => decide (x = .rst)).head? ≠ some .rst := by
  intro h
  have hnot := List.head?_dropWhile_not (fun x => decide (x = Stimulus.rst)) l
  rw [h] at hnot
  simp at hnot

/-- What is placed is what is taken next, and of the registers placing and taking write RX.STATE at
most. -/
theorem fetch_present (e : Encoded) (s : State) :
    ∃ (st : RxState) (stimuli : List Stimulus) (answers : List Answer) (p : Phase),
      fetch (present e s) = some (e, { s with
        rx := readerGoto st s.rx, inbox := stimuli, source := answers, phase := p }) := by
  have hrst := head?_dropWhile_rst s.inbox
  cases e with
  | cmdw w => exact ⟨s.rx.state, _, _, _, fetch_cmd rfl rfl⟩
  | tick now => exact ⟨s.rx.state, _, _, _, fetch_tick rfl rfl⟩
  | rst => exact ⟨s.rx.state, _, _, _, fetch_rst rfl⟩
  | rxbyte st a => exact ⟨st, _, _, _, fetch_answer rfl hrst rfl⟩
  | frame50 bytes => exact ⟨s.rx.state, _, _, _, fetch_frame rfl hrst⟩

theorem decodeTableWord_some {nbits w : Nat} {i : Instr} (h : decodeTableWord nbits w = some i) :
    ∃ e, encodedOfTableWord nbits w = some e ∧ decode e = .ok i := by
  unfold decodeTableWord at h
  cases he : encodedOfTableWord nbits w with
  | none => simp [he] at h
  | some e =>
    cases hd : decode e with
    | error err => simp [he, hd, Except.toOption] at h
    | ok j =>
      simp only [he, hd, Except.toOption, Option.some_inj] at h
      exact ⟨e, rfl, h ▸ hd⟩

theorem withFetchWord_of_encoded {nbits w : Nat} {e : Encoded} (s : State)
    (h : encodedOfTableWord nbits w = some e) : s.withFetchWord nbits w = present e s := by
  simp [State.withFetchWord, presentTableWord, h]

/-- A word that does not decode is placed as something the decoder rejects. -/
theorem withFetchWord_of_undecodable {nbits w : Nat} (s : State) (h : decodeTableWord nbits w = none) :
    ∃ e err, s.withFetchWord nbits w = present e s ∧ decode e = .error err := by
  unfold decodeTableWord at h
  cases he : encodedOfTableWord nbits w with
  | none =>
    exact ⟨.frame50 [], .frameNotFiftyBytes, by simp [State.withFetchWord, presentTableWord, he], rfl⟩
  | some e =>
    cases hd : decode e with
    | error err => exact ⟨e, err, withFetchWord_of_encoded s he, hd⟩
    | ok j => simp [he, hd, Except.toOption] at h

/-! ### The statements -/

/-- Settles O42, by the cases of the sequencing. -/
theorem stepRunsThePresentedOperation : Obligations.StepRunsThePresentedOperation := by
  intro s
  refine ⟨?rst, ?cmd, ?tick, ?idle, ?byte, ?listedNone, ?noAnswer, ?frame, ?notAFrame⟩
  case rst => exact fun _ hinbox => step_of_decode (fetch_rst hinbox) rfl
  case cmd => exact fun _ _ hphase hinbox => step_of_decode (fetch_cmd hphase hinbox) rfl
  case tick => exact fun _ _ _ hphase hinbox => step_of_decode (fetch_tick hphase hinbox) rfl
  case idle => exact fun hphase hinbox => step_of_fetch_none (fetch_idle_empty hphase hinbox)
  case byte =>
    exact fun _ _ hphase hrst hsource => step_of_decode (fetch_answer hphase hrst hsource) rfl
  case listedNone =>
    exact fun _ hphase hrst hsource => step_of_decode (fetch_answer hphase hrst hsource) rfl
  case noAnswer =>
    exact fun hphase hrst hsource => step_of_decode (fetch_no_answer hphase hrst hsource) rfl
  case frame =>
    exact fun _ _ hphase hrst hdecode => step_of_decode (fetch_frame hphase hrst) hdecode
  case notAFrame =>
    exact fun _ _ hphase hrst hdecode => step_of_decode_error (fetch_frame hphase hrst) hdecode

/-- Settles O44: what is placed is taken next, and it decodes as the table word does. -/
theorem placedWordRunsNext : Obligations.PlacedWordRunsNext := by
  intro nbits w s
  refine ⟨fun i hi => ?decodes, fun hnone => ?rejected⟩
  case decodes =>
    obtain ⟨e, he, hdecode⟩ := decodeTableWord_some hi
    obtain ⟨st, stimuli, answers, p, hfetch⟩ := fetch_present e s
    rw [withFetchWord_of_encoded s he]
    exact ⟨_, step_of_decode hfetch hdecode, rfl, rfl, rfl, rfl, rfl, rfl, rfl, rfl, rfl, rfl, rfl⟩
  case rejected =>
    obtain ⟨e, err, hplaced, hdecode⟩ := withFetchWord_of_undecodable s hnone
    obtain ⟨st, stimuli, answers, p, hfetch⟩ := fetch_present e s
    rw [hplaced]
    exact ⟨err, step_of_decode_error hfetch hdecode⟩

end Sys2Proof.Machine
end

section
/-! Proofs about the Frame Reader (`42_frame_reader.md`): the body, whole reads, and the run of the byte
steps. -/

namespace Sys2Proof.Machine

/-! ### What each operation leaves: one equation per instruction and case -/

theorem exec_rxBody_of_cnt_ne (b : Byte) {s : State} (hcnt : s.rx.cnt - 1#8 ≠ 0#8) :
    exec (.rxBody b) s = .next { s with rx := readerBody b s.rx } := by
  change execRxBody b s = _
  simp [execRxBody, bodyComplete, readerBody, hcnt, writeRx]

/-- The byte that brings the count to 0 ends the invocation with the copy-out (R117). -/
theorem exec_rxBody_of_cnt_eq (b : Byte) {s : State} (hcnt : s.rx.cnt - 1#8 = 0#8) :
    exec (.rxBody b) s = .next { s with
      cfg := extractBlock (readerBody b s.rx).buf
      rx := readerBody b s.rx
      phase := .idle
      ret := .read true } := by
  change execRxBody b s = _
  simp [execRxBody, bodyComplete, readerBody, hcnt, writeRx, copyOut, writeCfg, writePhase, returns]

theorem exec_rxEmpty (s : State) :
    exec .rxEmpty s = .next { s with phase := .idle, ret := .read false } := rfl

/-- A read whose run completes copies BUF[8..23] out (R117). -/
theorem exec_rxRead_of_ok {s : State} {r : Reader} {left : List Answer}
    (hrun : readRun s.source = ⟨true, r, left⟩) :
    exec .rxRead s = .next { s with
      cfg := extractBlock r.buf, rx := r, source := left, ret := .read true } := by
  simp [exec_rxRead, readOk, hrun]

/-! ### The store of a body byte (R116) -/

theorem storeBody_getElem (b : Byte) (r : Reader) (k : Nat) (hk : k < 50) :
    (storeBody b r)[k] = if k = r.idx then b else r.buf[k] := by
  by_cases hidx : r.idx < 50
  · simp [storeBody, hidx, Vector.getElem_set, eq_comm]
  · have hne : k ≠ r.idx := by omega
    simp [storeBody, hidx, hne]

theorem readerBody_getElem (b : Byte) (r : Reader) (k : Nat) (hk : k < 50) :
    (readerBody b r).buf[k] = if k = r.idx then b else r.buf[k] :=
  storeBody_getElem b r k hk

theorem cnt_sub_one_eq_zero_iff (c : Byte) : c - 1#8 = 0#8 ↔ c.toNat = 1 := by
  constructor <;> intro h <;> bv_omega

/-! ### A whole body -/

/-- The reader after body bytes, whatever the count. -/
def readerBodies : List Byte → Reader → Reader
  | [], r => r
  | b :: bs, r => readerBodies bs (readerBody b r)

/-- Body bytes go to BUF in order from RX.IDX on, as far as BUF reaches; the rest of BUF is as it was. -/
theorem readerBodies_getElem (bs : List Byte) (r : Reader) (k : Nat) (hk : k < 50) :
    (readerBodies bs r).buf[k] =
      if k < r.idx then r.buf[k] else bs.getD (k - r.idx) r.buf[k] := by
  induction bs generalizing r with
  | nil => simp [readerBodies]
  | cons b bs ih =>
    have hidx : (readerBody b r).idx = min (r.idx + 1) 50 := rfl
    rw [readerBodies, ih, readerBody_getElem, hidx]
    obtain hlt | heq | hgt := Nat.lt_trichotomy k r.idx
    · have hlt' : k < min (r.idx + 1) 50 := by omega
      rw [if_pos hlt', if_pos hlt, if_neg (by omega)]
    · have hlt' : k < min (r.idx + 1) 50 := by omega
      have hplace : k - r.idx = 0 := by omega
      rw [if_pos hlt', if_pos heq, if_neg (by omega), hplace, List.getD_cons_zero]
    · have hge : ¬ k < min (r.idx + 1) 50 := by omega
      have hplace : k - r.idx = (k - min (r.idx + 1) 50) + 1 := by omega
      rw [if_neg hge, if_neg (by omega), if_neg (by omega), hplace, List.getD_cons_succ]

theorem readAnswers_body_of_cnt_eq (b : Byte) (l : List Answer) {r : Reader}
    (hr : r.state = .readBody) (hcnt : r.cnt - 1#8 = 0#8) :
    readAnswers (some b :: l) r = ⟨true, readerBody b r, l⟩ := by
  simp [readAnswers, readerByte, hr, bodyComplete, readerBody, hcnt]

/-- A body is complete after the byte that brings the count to 0, the one after `(RX.CNT - 1) mod 256`
others. -/
theorem readAnswers_body (bs : List Byte) (rest : List Answer) (r : Reader)
    (hr : r.state = .readBody) (hlen : bs.length = (r.cnt - 1#8).toNat + 1) :
    readAnswers (bs.map some ++ rest) r = ⟨true, readerBodies bs r, rest⟩ := by
  induction bs generalizing r with
  | nil => simp at hlen
  | cons b bs ih =>
    rw [List.length_cons] at hlen
    rw [List.map_cons, List.cons_append, readerBodies]
    by_cases hcnt : r.cnt - 1#8 = 0#8
    · have hlast : bs = [] := List.eq_nil_of_length_eq_zero (by simpa [hcnt] using hlen)
      subst hlast
      exact readAnswers_body_of_cnt_eq b rest hr hcnt
    · have hlen' : bs.length = ((readerBody b r).cnt - 1#8).toNat + 1 := by
        simp only [readerBody]
        bv_omega
      rw [readAnswers_body_of_cnt_ne b _ hr hcnt]
      exact ih (readerBody b r) hr hlen'

/-! ### A whole frame (R121 to R125) -/

/-- Bytes other than 7E before the sync pair are dropped (R113). -/
theorem readAnswers_skip {skip : List Byte} (hskip : ∀ b ∈ skip, b ≠ Config.sync) (l : List Answer)
    {r : Reader} (hr : r.state = .waitSync1) :
    readAnswers (skip.map some ++ l) r = readAnswers l r := by
  induction skip with
  | nil => rfl
  | cons b bs ih =>
    obtain ⟨hb, hbs⟩ := List.forall_mem_cons.mp hskip
    have hpass : readerByte b r = (r, false) := by simp [readerByte, hr, hb]
    rw [List.map_cons, List.cons_append, readAnswers, hpass]
    exact ih hbs

/-- The reader once the length byte is read, from the start of an invocation (R111, R115). -/
def readerAtBody (len : Byte) : Reader := { readerInit with cnt := len, state := .readBody }

theorem readRun_frame {skip body : List Byte} {len : Byte} (rest : List Answer)
    (hskip : ∀ b ∈ skip, b ≠ Config.sync) (hlen : body.length = (len - 1#8).toNat + 1) :
    readRun ((skip ++ Config.sync :: Config.sync :: len :: body).map some ++ rest)
      = ⟨true, readerBodies body (readerAtBody len), rest⟩ := by
  simp only [readRun, List.map_append, List.map_cons, List.append_assoc, List.cons_append]
  rw [readAnswers_skip hskip _ rfl, readAnswers_sync1_hit _ rfl, readAnswers_sync2_hit _ rfl,
    readAnswers_length _ _ rfl]
  exact readAnswers_body body rest (readerAtBody len) rfl hlen

/-- BUF holds zeros and RX.IDX is 3 before the body (R111), so the copy-out takes body bytes 5 to 20, or
0. -/
theorem extractBlock_readerBodies (body : List Byte) (len : Byte) (i : Fin 16) :
    (extractBlock (readerBodies body (readerAtBody len)).buf)[i.val] = body.getD (i.val + 5) 0#8 := by
  have hidx : (readerAtBody len).idx = 3 := rfl
  have hbuf : (readerAtBody len).buf = Vector.replicate 50 0#8 := rfl
  have hplace : 8 + i.val - 3 = i.val + 5 := by omega
  rw [extractBlock_getElem _ _ i.isLt, readerBodies_getElem, hidx, if_neg (by omega), hplace, hbuf,
    Vector.getElem_replicate]

/-! ### The byte steps against RX.READ's loop (R112) -/

/-- A byte's operation does what the loop does with that byte, and on the last byte of a frame the
copy-out too. -/
theorem exec_decodeRxByte (b : Byte) (s : State) :
    exec (decodeRxByte s.rx.state b) s = .next (
      if (readerByte b s.rx).2 then { s with
        cfg := extractBlock (readerByte b s.rx).1.buf
        rx := (readerByte b s.rx).1
        phase := .idle
        ret := .read true }
      else { s with rx := (readerByte b s.rx).1 }) := by
  cases hst : s.rx.state with
  | waitSync1 =>
    by_cases hb : b = Config.sync
    · simp [decodeRxByte, readerByte, hst, hb, exec_rxSync1Hit, readerGoto]
    · simp [decodeRxByte, readerByte, hst, hb, exec_rxSync1Skip]
  | waitSync2 =>
    by_cases hb : b = Config.sync
    · simp [decodeRxByte, readerByte, hst, hb, exec_rxSync2Hit, readerGoto]
    · simp [decodeRxByte, readerByte, hst, hb, exec_rxSync2Miss, readerGoto]
  | readLength => simp [decodeRxByte, readerByte, hst, exec_rxLen, readerLen]
  | readBody =>
    have hcomplete : bodyComplete (readerBody b s.rx) = decide (s.rx.cnt - 1#8 = 0#8) := rfl
    by_cases hcnt : s.rx.cnt - 1#8 = 0#8
    · simp [decodeRxByte, readerByte, hst, hcomplete, hcnt, exec_rxBody_of_cnt_eq]
    · simp [decodeRxByte, readerByte, hst, hcomplete, hcnt, exec_rxBody_of_cnt_ne]

/-- Stepping inside a read comes to the end of the loop: by induction over the answers, one step each,
and one for the source that has nothing left. -/
theorem runSteps_reading (l : List Answer) {s : State} (hphase : s.phase = .reading)
    (hrst : s.inbox.head? ≠ some .rst) (hsource : s.source = l) :
    ∃ n ≤ l.length + 1, runSteps n s = .next { s with
      cfg := if (readAnswers l s.rx).ok then extractBlock (readAnswers l s.rx).reader.buf else s.cfg
      rx := (readAnswers l s.rx).reader
      source := (readAnswers l s.rx).left
      phase := .idle
      ret := .read (readAnswers l s.rx).ok } := by
  induction l generalizing s with
  | nil =>
    have hstep := step_of_decode (fetch_no_answer hphase hrst hsource) rfl
    exact ⟨1, by simp, runSteps_one (hstep.trans (by simp [exec_rxEmpty, readAnswers, hsource]))⟩
  | cons a rest ih =>
    cases a with
    | none =>
      have hstep := step_of_decode (fetch_answer hphase hrst hsource) rfl
      exact ⟨1, by simp, runSteps_one (hstep.trans (by simp [exec_rxEmpty, readAnswers]))⟩
    | some b =>
      have hstep := (step_of_decode (fetch_answer hphase hrst hsource) rfl).trans
        (exec_decodeRxByte b { s with source := rest })
      cases hlast : (readerByte b s.rx).2 with
      | true => exact ⟨1, by simp, runSteps_one (hstep.trans (by simp [hlast, readAnswers]))⟩
      | false =>
        rw [if_neg (by simp [hlast])] at hstep
        obtain ⟨n, hn, hrun⟩ :=
          ih (s := { s with rx := (readerByte b s.rx).1, source := rest }) hphase hrst rfl
        refine ⟨n + 1, by simpa using hn, ?_⟩
        rw [runSteps_succ _ _ _ hstep]
        simpa [hlast, readAnswers] using hrun

/-! ### The statements -/

/-- Settles O18: the store byte by byte, and the two cases of the count. -/
theorem bodyByteStoredCountedAndCopiedOut : Obligations.BodyByteStoredCountedAndCopiedOut := by
  intro b s
  refine ⟨storeBody b s.rx, extractBlock (storeBody b s.rx),
    fun k => storeBody_getElem b s.rx k.val k.isLt,
    fun i => extractBlock_getElem _ i.val i.isLt, fun hcnt => ?more, fun hcnt => ?last⟩
  case more =>
    rw [exec_rxBody_of_cnt_ne b (by rwa [Ne, cnt_sub_one_eq_zero_iff]), readerBody]
  case last =>
    have hzero : s.rx.cnt - 1#8 = 0#8 := (cnt_sub_one_eq_zero_iff _).mpr hcnt
    rw [exec_rxBody_of_cnt_eq b hzero, readerBody, hzero]

/-- Settles O19: the operation's equation is the statement. -/
theorem emptySourceEndsRead : Obligations.EmptySourceEndsRead := exec_rxEmpty

/-- Settles O20: what RX.READ writes, and the answers its loop leaves. -/
theorem readChangesOnlyCfg : Obligations.ReadChangesOnlyCfg := by
  intro s
  refine ⟨_, _, _, _, exec_rxRead s, ?ok, ?fail, readAnswers_left s.source readerInit⟩
  case ok =>
    intro hok i
    rw [hok]
    exact extractBlock_getElem _ i.val i.isLt
  case fail =>
    intro hfail
    rw [hfail]
    rfl

/-- Settles O23: `(L - 1) mod 256` bytes and one more are L, or 256 for L = 0. -/
theorem readTakesFrameOfAnyLength : Obligations.ReadTakesFrameOfAnyLength := by
  intro skip len body rest s hskip hlen hsource
  have hcount : body.length = (len - 1#8).toNat + 1 := by
    rw [hlen]
    split_ifs <;> bv_omega
  exact ⟨_, _, exec_rxRead_of_ok (hsource ▸ readRun_frame rest hskip hcount),
    extractBlock_readerBodies body len⟩

/-- Settles O24: the steps from the start of an invocation come to the end of RX.READ's loop. -/
theorem readIsTheRunOfItsByteSteps : Obligations.ReadIsTheRunOfItsByteSteps := by
  intro s hrst
  obtain ⟨n, hn, hrun⟩ := runSteps_reading s.source
    (s := { s with rx := readerInit, phase := .reading }) rfl hrst rfl
  exact ⟨n, _, hn, exec_rxRead s, hrun⟩

end Sys2Proof.Machine
end

section
/-! Proofs about the Poll/Push Scheduler (`43_scheduler.md`): the interval, and what a poll cycle
leaves. -/

namespace Sys2Proof.Machine

/-! ### What each operation leaves: one equation per instruction -/

theorem exec_schedTick (now : Time) (s : State) :
    exec (.schedTick now) s = if intervalElapsed now s then .next (fire now s) else .next s := rfl

theorem exec_pollFire (now : Time) (s : State) : exec (.pollFire now) s = .next (fire now s) := rfl

/-! ### The interval (R130, R131) -/

theorem intervalElapsed_iff (now : Time) (s : State) :
    intervalElapsed now s = true ↔ 1000 ≤ (now.toNat + 2 ^ 32 - s.tLast.toNat) % 2 ^ 32 := by
  have hlast := s.tLast.isLt
  have hsum : 2 ^ 32 - s.tLast.toNat + now.toNat = now.toNat + 2 ^ 32 - s.tLast.toNat := by omega
  rw [intervalElapsed, elapsed, decide_eq_true_iff, BitVec.le_def, BitVec.toNat_sub, hsum]
  rfl

/-! ### A poll cycle (R133) -/

/-- A poll cycle up to AIR_ERR: the frame is sent, the read done and its result recorded; what may
follow is SYNC.UPDATE (R132 to R137). -/
def polled (now : Time) (s : State) : State :=
  { s with
    cfg := if readOk s then extractBlock (readRun s.source).reader.buf else s.cfg
    pend := false
    airErr := !readOk s
    tLast := now
    rx := (readRun s.source).reader
    txf := buildFrame Config.postfixBytes s.cfg s.pend
    source := (readRun s.source).left
    trace := s.trace ++ (buildFrame Config.postfixBytes s.cfg s.pend).toList.map Event.tx }

theorem afterRead_sendFrame (now : Time) (s : State) :
    { afterRead (sendFrame now s) with airErr := !readOk s } = polled now s := by
  rw [afterRead_eq, sendFrame_eq]
  rfl

theorem fire_of_fail {now : Time} {s : State} (hread : readOk s = false) : fire now s = polled now s := by
  obtain ⟨-, hfire⟩ | ⟨hok, -⟩ := fire_cases now s
  · rw [hfire, ← afterRead_sendFrame, hread, Bool.not_false]
  · exact absurd hok (by simp [hread])

theorem fire_of_ok {now : Time} {s : State} (hread : readOk s = true) :
    fire now s = synchronize (decodeCfg (polled now s).cfg) (polled now s) := by
  obtain ⟨hfail, -⟩ | ⟨-, hfire⟩ := fire_cases now s
  · exact absurd hread (by simp [hfail])
  · rw [hfire, ← afterRead_sendFrame, hread, Bool.not_true]

/-- Whatever its read does, a fire is `polled` and at most one SYNC.UPDATE. -/
theorem fire_eq_polled_or (now : Time) (s : State) :
    fire now s = polled now s ∨ ∃ d, fire now s = synchronize d (polled now s) := by
  cases hread : readOk s with
  | false => exact .inl (fire_of_fail hread)
  | true => exact .inr ⟨_, fire_of_ok hread⟩

/-! ### What a fire leaves in each field -/

theorem fire_eq (now : Time) (s : State) :
    fire now s = { polled now s with lks := (fire now s).lks, trace := (fire now s).trace } := by
  obtain h | ⟨d, h⟩ := fire_eq_polled_or now s
  · rw [h]
  · rw [h, ← synchronize_eq]

@[simp] theorem fire_cfg (now : Time) (s : State) : (fire now s).cfg = (polled now s).cfg := by
  rw [fire_eq]
@[simp] theorem fire_pend (now : Time) (s : State) : (fire now s).pend = false := by rw [fire_eq]; rfl
@[simp] theorem fire_airErr (now : Time) (s : State) : (fire now s).airErr = !readOk s := by
  rw [fire_eq]; rfl
@[simp] theorem fire_tLast (now : Time) (s : State) : (fire now s).tLast = now := by rw [fire_eq]; rfl
@[simp] theorem fire_txf (now : Time) (s : State) :
    (fire now s).txf = buildFrame Config.postfixBytes s.cfg s.pend := by rw [fire_eq]; rfl
@[simp] theorem fire_inbox (now : Time) (s : State) : (fire now s).inbox = s.inbox := by rw [fire_eq]; rfl
@[simp] theorem fire_source (now : Time) (s : State) : (fire now s).source = (readRun s.source).left := by
  rw [fire_eq]; rfl
@[simp] theorem fire_phase (now : Time) (s : State) : (fire now s).phase = s.phase := by rw [fire_eq]; rfl

@[simp] theorem polled_sentBytes (now : Time) (s : State) :
    sentBytes (polled now s).trace = sentBytes s.trace ++ (polled now s).txf.toList := by
  simp [polled]

@[simp] theorem polled_publishedEvents (now : Time) (s : State) :
    publishedEvents (polled now s).trace = publishedEvents s.trace := by
  simp [polled]

/-- A fire sends the 50 bytes of the frame it built, and nothing else (R134). -/
theorem fire_sentBytes (now : Time) (s : State) :
    sentBytes (fire now s).trace = sentBytes s.trace ++ (fire now s).txf.toList := by
  obtain h | ⟨d, h⟩ := fire_eq_polled_or now s <;> simp [h]

theorem fire_trace_prefix (now : Time) (s : State) : s.trace <+: (fire now s).trace := by
  have hpolled : s.trace <+: (polled now s).trace := List.prefix_append _ _
  obtain h | ⟨d, h⟩ := fire_eq_polled_or now s
  · rwa [h]
  · rw [h]
    exact hpolled.trans (synchronize_trace_prefix d _)

theorem fire_lks_valid {now : Time} {s : State} (hne : (fire now s).lks ≠ s.lks) :
    isValid (fire now s).lks = true := by
  obtain h | ⟨d, h⟩ := fire_eq_polled_or now s
  · exact absurd (congrArg State.lks h) hne
  · rw [h] at hne ⊢
    exact synchronize_lks_valid hne

/-- A fire publishes at most once, with a valid change of LKS and the new LKS whole (R152). -/
theorem fire_published (now : Time) (s : State) :
    publishedEvents (fire now s).trace = publishedEvents s.trace ∨
    (isValid (fire now s).lks = true ∧ (fire now s).lks ≠ s.lks ∧
      publishedEvents (fire now s).trace = publishedEvents s.trace ++ [publishedOf (fire now s).lks]) := by
  obtain h | ⟨d, h⟩ := fire_eq_polled_or now s
  · exact .inl (by rw [h, polled_publishedEvents])
  · rw [h, ← polled_publishedEvents now s]
    exact synchronize_published d (polled now s)

/-- The frame a fire sends is the one PEND selects (R134). -/
theorem fire_layout (now : Time) (s : State) :
    FrameLayout (fire now s).txf s.cfg (if s.pend then Config.cmdSet else Config.cmdQuery) := by
  rw [fire_txf]
  exact buildFrame_layout s.cfg s.pend

/-! ### A fire against the read it does -/

/-- RX.READ on the state after the sending writes no AIR_ERR, and returns a result that a fire does not. -/
theorem exec_rxRead_sent (now : Time) (s : State) :
    exec .rxRead { s with
        tLast := now
        txf := buildFrame Config.postfixBytes s.cfg s.pend
        trace := s.trace ++ (buildFrame Config.postfixBytes s.cfg s.pend).toList.map Event.tx
        pend := false }
      = .next { polled now s with airErr := s.airErr, ret := .read (readOk s) } :=
  exec_rxRead _

theorem polled_with_airErr {now : Time} {s : State} {ok : Bool} (hread : readOk s = ok) :
    polled now s = { polled now s with airErr := !ok } := by
  rw [← hread]
  rfl

/-- What RX.READ by itself comes to from the same source. -/
theorem exec_rxRead_next {s u : State} (h : exec .rxRead s = .next u) :
    u.ret = .read (readOk s) ∧ u.source = (readRun s.source).left ∧
    u.cfg = if readOk s then extractBlock (readRun s.source).reader.buf else s.cfg := by
  obtain rfl := Host.Outcome.next.inj ((exec_rxRead s).symm.trans h)
  exact ⟨rfl, rfl, rfl⟩

/-- RX.READ starts the reader afresh (R111), so a fire does not see what it held. -/
theorem fire_withRx (r : Reader) (now : Time) (s : State) : fire now { s with rx := r } = fire now s := by
  have hpolled : polled now { s with rx := r } = polled now s := rfl
  cases hread : readOk s with
  | false => rw [fire_of_fail hread, fire_of_fail (s := { s with rx := r }) hread, hpolled]
  | true => rw [fire_of_ok hread, fire_of_ok (s := { s with rx := r }) hread, hpolled]

/-! ### The statements -/

/-- Settles O25: the tick's test is the comparison of the numbers modulo 2^32. -/
theorem tickFiresIffIntervalElapsed : Obligations.TickFiresIffIntervalElapsed := by
  intro now s
  refine ⟨fun helapsed => ⟨fire now s, exec_pollFire now s, ?fires⟩, fun helapsed => ?waits⟩
  case fires => rw [exec_schedTick, if_pos ((intervalElapsed_iff now s).mpr helapsed)]
  case waits => rw [exec_schedTick, if_neg (by rw [intervalElapsed_iff]; omega)]

/-- Settles O26: RX.READ on the state after the sending, then the two results of the read. -/
theorem fireSendsThenReads : Obligations.FireSendsThenReads := by
  intro now s
  refine ⟨buildFrame Config.postfixBytes s.cfg s.pend, _, fire now s, buildFrame_layout s.cfg s.pend,
    exec_rxRead_sent now s, exec_pollFire now s, ?result⟩
  cases hread : readOk s with
  | false =>
    have hpolled : polled now s = { polled now s with airErr := true } := polled_with_airErr hread
    exact .inl ⟨rfl, (fire_of_fail hread).trans hpolled⟩
  | true =>
    have hpolled : polled now s = { polled now s with airErr := false } := polled_with_airErr hread
    refine .inr ⟨rfl, decodeCfg (polled now s).cfg, exec_cfgDec _ _, ?_⟩
    rw [exec_syncUpdate, fire_of_ok hread]
    exact congrArg (fun t => Host.Outcome.next (synchronize (decodeCfg (polled now s).cfg) t)) hpolled.symm

/-- Settles O28, from what a fire leaves in TXF and the trace. -/
theorem fireSendsExactlyOneFrame : Obligations.FireSendsExactlyOneFrame := by
  intro now s
  refine ⟨fire now s, exec_pollFire now s, fire_tLast now s, fire_layout now s, fire_sentBytes now s,
    ?published⟩
  case published =>
    obtain hsame | ⟨-, -, hone⟩ := fire_published now s
    · rw [hsame]
      omega
    · rw [hone, List.length_append, List.length_singleton]

/-- Settles O29: with a failed read the poll cycle ends before SYNC.UPDATE. -/
theorem failedReadLeavesRegisters : Obligations.FailedReadLeavesRegisters := by
  intro now s u hu hret
  obtain ⟨huret, husource, -⟩ := exec_rxRead_next hu
  have hread : readOk s = false := Ret.read.inj (huret.symm.trans hret)
  have hfire := fire_of_fail (now := now) hread
  refine ⟨fire now s, exec_pollFire now s, fire_tLast now s, fire_pend now s, ?airErr, ?cfg, ?lks, ?source,
    ?published⟩
  case airErr => rw [fire_airErr, hread, Bool.not_false]
  case cfg =>
    rw [fire_cfg, polled, hread]
    rfl
  case lks =>
    rw [hfire]
    rfl
  case source => rw [fire_source, husource]
  case published => rw [hfire, polled_publishedEvents]

/-- Settles O30: SYNC.UPDATE drops the decode of the block it received. -/
theorem invalidReplyIsDropped : Obligations.InvalidReplyIsDropped := by
  intro now s u hu hret hinvalid
  obtain ⟨huret, -, hucfg⟩ := exec_rxRead_next hu
  have hread : readOk s = true := Ret.read.inj (huret.symm.trans hret)
  have hcfg : (polled now s).cfg = u.cfg := hucfg.symm
  have hfire : fire now s = polled now s := by
    rw [fire_of_ok hread, hcfg, synchronize_of_dropped (.inl hinvalid)]
  refine ⟨fire now s, exec_pollFire now s, ?cfg, ?airErr, ?lks, ?published⟩
  case cfg => rw [fire_cfg, hcfg]
  case airErr => rw [fire_airErr, hread, Bool.not_true]
  case lks =>
    rw [hfire]
    rfl
  case published => rw [hfire, polled_publishedEvents]

/-- Settles O21: RX.READ and a fire are given by the source and start the reader afresh (R111). -/
theorem noReaderStateCrossesInvocations : Obligations.NoReaderStateCrossesInvocations := by
  intro r now s
  refine ⟨?read, ?fire⟩
  case read =>
    rw [exec_rxRead, exec_rxRead]
    rfl
  case fire => rw [exec_pollFire, exec_pollFire, fire_withRx]

end Sys2Proof.Machine
end

section
/-! Proofs about the whole machine: everything an operation can do, said once; which operation writes
what; and the invariant. -/

namespace Sys2Proof.Machine

/-! ### Everything an operation can do -/

/-- What operation `i` can make of `s`, by the registers it may write. -/
inductive Effect (i : Instr) (s : State) : State → Prop where
  /-- The transients and the model's own fields at most. -/
  | transient (r : Reader) (f : Frame) (p : Phase) (x : Ret)
      (hindex : readerIndexOk s.rx = true → readerIndexOk r = true) (hphase : p = s.phase ∨ p = .idle) :
      Effect i s { s with rx := r, txf := f, phase := p, ret := x }
  /-- A valid state encoded into CFG; a command also sets PEND. -/
  | encode (d : DeviceState) (p : Bool) (hvalid : isValid d = true)
      (hpend : p = s.pend ∨ (isCommand i = true ∧ p = true)) :
      Effect i s { s with cfg := encodeCfg d s.cfg, pend := p }
  /-- The end of a read, CFG overwritten or not. -/
  | read (blk : Block) (r : Reader) (l : List Answer) (p : Phase) (x : Ret) (hcopy : isCopyOut i = true)
      (hindex : readerIndexOk s.rx = true → readerIndexOk r = true) (hphase : p = s.phase ∨ p = .idle) :
      Effect i s { s with cfg := blk, rx := r, source := l, phase := p, ret := x }
  | sync (d : DeviceState) (hsync : isSync i = true) : Effect i s (synchronize d s)
  | fire (now : Time) (hfire : isFire i = true) : Effect i s (fire now s)
  | reset (hreset : i = .reset) : Effect i s (resetRegisters s)

/-- An operation that changes nothing has an effect allowed to every operation. -/
theorem Effect.none (i : Instr) (s : State) : Effect i s s :=
  .transient s.rx s.txf s.phase s.ret id (.inl rfl)

/-- An operation that only returns a result. -/
theorem Effect.returned (i : Instr) (s : State) (x : Ret) : Effect i s { s with ret := x } :=
  .transient s.rx s.txf s.phase x id (.inl rfl)

/-- A reader step before the body. -/
theorem Effect.readerMoved (i : Instr) (s : State) (r : Reader) (hidx : r.idx = s.rx.idx) :
    Effect i s { s with rx := r } :=
  .transient r s.txf s.phase s.ret (fun h => by rwa [readerIndexOk, hidx]) (.inl rfl)

theorem readerBody_index (b : Byte) {r : Reader} (h : readerIndexOk r = true) :
    readerIndexOk (readerBody b r) = true :=
  readerByte_index b { r with state := .readBody } h

theorem readRun_index (l : List Answer) : readerIndexOk (readRun l).reader = true :=
  readAnswers_index l readerInit readerInit_index

theorem exec_command_effect {i : Instr} (hi : isCommand i = true) (s : State) :
    ∃ t, exec i s = .next t ∧ Effect i s t := by
  obtain hsame | ⟨c, hvalid, haccept⟩ := exec_command_cases hi s
  · exact ⟨s, hsame, .none i s⟩
  · exact ⟨_, haccept, .encode c true hvalid (.inr ⟨hi, rfl⟩)⟩

/-- Every operation but CFG.ENC of an invalid state has a next state, and its effect is one of the six. -/
theorem exec_effect (i : Instr) (s : State) (henc : ∀ d, i = .cfgEnc d → isValid d = true) :
    ∃ t, exec i s = .next t ∧ Effect i s t := by
  by_cases hcommand : isCommand i = true
  · exact exec_command_effect hcommand s
  cases i with
  | checksum f => exact ⟨_, exec_checksum f s, .returned _ s _⟩
  | frameQuery => exact ⟨_, exec_frameQuery s, .transient s.rx _ s.phase _ id (.inl rfl)⟩
  | frameSet => exact ⟨_, exec_frameSet s, .transient s.rx _ s.phase _ id (.inl rfl)⟩
  | frameExtract f => exact ⟨_, exec_frameExtract f s, .returned _ s _⟩
  | isValid d => exact ⟨_, exec_isValid d s, .returned _ s _⟩
  | fanq f => exact ⟨_, exec_fanq f s, .returned _ s _⟩
  | cfgDec blk => exact ⟨_, exec_cfgDec blk s, .returned _ s _⟩
  | cfgEnc d =>
    have hvalid := henc d rfl
    exact ⟨_, exec_cfgEnc_of_valid s hvalid, .encode d s.pend hvalid (.inl rfl)⟩
  | rxRead =>
    exact ⟨_, exec_rxRead s, .read _ _ _ s.phase _ rfl (fun _ => readRun_index s.source) (.inl rfl)⟩
  | rxSync1Hit => exact ⟨_, exec_rxSync1Hit s, .readerMoved _ s _ rfl⟩
  | rxSync1Skip b => exact ⟨_, exec_rxSync1Skip b s, .none _ s⟩
  | rxSync2Hit => exact ⟨_, exec_rxSync2Hit s, .readerMoved _ s _ rfl⟩
  | rxSync2Miss b => exact ⟨_, exec_rxSync2Miss b s, .readerMoved _ s _ rfl⟩
  | rxLen b => exact ⟨_, exec_rxLen b s, .readerMoved _ s _ rfl⟩
  | rxBody b =>
    by_cases hcnt : s.rx.cnt - 1#8 = 0#8
    · exact ⟨_, exec_rxBody_of_cnt_eq b hcnt, .read _ _ s.source _ _ rfl (readerBody_index b) (.inr rfl)⟩
    · exact ⟨_, exec_rxBody_of_cnt_ne b hcnt,
        .transient _ s.txf s.phase s.ret (readerBody_index b) (.inl rfl)⟩
  | rxEmpty => exact ⟨_, exec_rxEmpty s, .transient s.rx s.txf _ _ id (.inr rfl)⟩
  | schedTick now =>
    by_cases helapsed : intervalElapsed now s = true
    · exact ⟨_, (exec_schedTick now s).trans (if_pos helapsed), .fire now rfl⟩
    · exact ⟨_, (exec_schedTick now s).trans (if_neg helapsed), .none _ s⟩
  | pollFire now => exact ⟨_, exec_pollFire now s, .fire now rfl⟩
  | syncUpdate d => exact ⟨_, exec_syncUpdate d s, .sync d rfl⟩
  | xhm mode => exact ⟨_, exec_xhm mode s, .returned _ s _⟩
  | reset => exact ⟨_, exec_reset s, .reset rfl⟩
  | _ => exact absurd rfl hcommand

/-- The inversion: what answers a next state has one of the six effects. -/
theorem effect_of_exec {i : Instr} {s t : State} (h : exec i s = .next t) : Effect i s t := by
  have henc : ∀ d, i = .cfgEnc d → isValid d = true := by
    rintro d rfl
    obtain ⟨hvalid, -⟩ := encodeInto_next d s t h
    exact hvalid
  obtain ⟨u, hu, heffect⟩ := exec_effect i s henc
  obtain rfl : u = t := Host.Outcome.next.inj (hu.symm.trans h)
  exact heffect

/-! ### What every effect leaves -/

theorem Effect.inbox {i : Instr} {s t : State} (h : Effect i s t) : t.inbox = s.inbox := by
  cases h with
  | sync d => exact synchronize_inbox d s
  | fire now => exact fire_inbox now s
  | _ => rfl

/-- No operation begins an invocation or a frame: the phase stays, or is idle again. -/
theorem Effect.phase {i : Instr} {s t : State} (h : Effect i s t) :
    t.phase = s.phase ∨ t.phase = .idle := by
  cases h with
  | transient r f p x _ hphase => exact hphase
  | encode => exact .inl rfl
  | read blk r l p x _ _ hphase => exact hphase
  | sync d => exact .inl (synchronize_phase d s)
  | fire now => exact .inl (fire_phase now s)
  | reset => exact .inr rfl

/-! ### Which operation writes what: the statements -/

/-- Settles O51: a well-formed CFG.ENC has a valid operand, and every other operation has a next state
anyway. -/
theorem wellFormedOperationsComplete : Obligations.WellFormedOperationsComplete := by
  intro i s hwf
  have henc : ∀ d, i = .cfgEnc d → isValid d = true := by
    rintro d rfl
    exact hwf
  obtain ⟨t, ht, -⟩ := exec_effect i s henc
  exact ⟨t, ht⟩

/-- Settles O52, effect by effect. -/
theorem lksWrittenOnlyBySyncAndReset : Obligations.LksWrittenOnlyBySyncAndReset := by
  intro i s t h hne
  cases effect_of_exec h with
  | sync d hsync => exact .inr ⟨.inl hsync, synchronize_lks_valid hne⟩
  | fire now hfire => exact .inr ⟨.inr hfire, fire_lks_valid hne⟩
  | reset hreset => exact .inl hreset
  | _ => exact absurd rfl hne

/-- Settles O53, effect by effect. -/
theorem pendSetByCommandsClearedByFires : Obligations.PendSetByCommandsClearedByFires := by
  intro i s t h
  cases effect_of_exec h with
  | transient | read => exact ⟨fun h0 h1 => by simp [h0] at h1, fun h1 h0 => by simp [h1] at h0⟩
  | encode d p hvalid hpend =>
    have hdecode : isValid (decodeCfg (encodeCfg d s.cfg)) = true := by
      rwa [decodeCfg_encodeCfg s.cfg hvalid]
    obtain rfl | ⟨hcommand, rfl⟩ := hpend
    · exact ⟨fun h0 h1 => by simp [h0] at h1, fun h1 h0 => by simp [h1] at h0⟩
    · exact ⟨fun _ _ => ⟨hcommand, hdecode⟩, fun _ h0 => by simp at h0⟩
  | sync d =>
    rw [synchronize_pend]
    exact ⟨fun h0 h1 => by simp [h0] at h1, fun h1 h0 => by simp [h1] at h0⟩
  | fire now hfire => exact ⟨fun _ h1 => by simp at h1, fun _ _ => .inl hfire⟩
  | reset hreset => exact ⟨fun _ h1 => by simp at h1, fun _ _ => .inr hreset⟩

/-- Settles O54, effect by effect. -/
theorem fireRegistersWrittenOnlyByFires : Obligations.FireRegistersWrittenOnlyByFires := by
  intro i s t h hne
  cases effect_of_exec h with
  | sync d => simp at hne
  | fire now hfire => exact .inl hfire
  | reset hreset => exact .inr hreset
  | _ => simp at hne

/-- Settles O55, effect by effect: an encode leaves the reserved bytes. -/
theorem reservedBytesRoundTrip : Obligations.ReservedBytesRoundTrip := by
  intro i s t k h hres hne
  cases effect_of_exec h with
  | transient => exact absurd rfl hne
  | encode d => exact absurd (encodeCfg_reserved d s.cfg k.val k.isLt hres) hne
  | read _ _ _ _ _ hcopy => exact .inl hcopy
  | sync d => exact absurd (by rw [synchronize_cfg]) hne
  | fire now hfire => exact .inr (.inl hfire)
  | reset hreset => exact .inr (.inr hreset)

/-- Settles O56, effect by effect. -/
theorem publishOnlyOnChangeOfLks : Obligations.PublishOnlyOnChangeOfLks := by
  intro i s t h
  cases effect_of_exec h with
  | sync d hsync => exact (synchronize_published d s).imp_right fun hpub => ⟨.inl hsync, hpub⟩
  | fire now hfire => exact (fire_published now s).imp_right fun hpub => ⟨.inr hfire, hpub⟩
  | _ => exact .inl rfl

/-- Settles O57, effect by effect. -/
theorem traceOnlyGrows : Obligations.TraceOnlyGrows := by
  intro i s t h
  cases effect_of_exec h with
  | sync d =>
    exact ⟨synchronize_trace_prefix d s, fun hne => absurd (synchronize_sentBytes d s) hne⟩
  | fire now hfire => exact ⟨fire_trace_prefix now s, fun _ => hfire⟩
  | _ => exact ⟨List.prefix_rfl, fun hne => absurd rfl hne⟩

/-- Settles O27: the fire sends the frame PEND selects and clears PEND, and by O53 only a command sets
it. -/
theorem pendingCommandIsSentOnce : Obligations.PendingCommandIsSentOnce := by
  refine ⟨fun now s hpend => ?set, fun now s hpend => ?query, fun i s t hpend hcommand h => ?others⟩
  case set =>
    have hlayout := fire_layout now s
    rw [hpend, if_pos rfl] at hlayout
    exact ⟨fire now s, exec_pollFire now s, hlayout, fire_sentBytes now s, fire_pend now s⟩
  case query =>
    have hlayout := fire_layout now s
    rw [hpend, if_neg Bool.false_ne_true] at hlayout
    exact ⟨fire now s, exec_pollFire now s, hlayout, fire_sentBytes now s, fire_pend now s⟩
  case others =>
    obtain ⟨hset, -⟩ := pendSetByCommandsClearedByFires i s t h
    by_contra hne
    obtain ⟨hcommand', -⟩ := hset hpend (by simpa using hne)
    exact absurd hcommand' (by simp [hcommand])

/-! ### The invariant at reset and under each effect -/

/-- Settles O49, clause by clause of the invariant. -/
theorem resetHasInv : Obligations.ResetHasInv where
  lksValid := by decide
  published := rfl
  pendingValid := fun hset => by cases hset
  notReading := fun hreading => by cases hreading
  indexOk := by decide

theorem MachineInv.synchronize {s : State} (h : MachineInv s) (d : DeviceState) :
    MachineInv (synchronize d s) := by
  obtain ⟨-, hdrop⟩ | ⟨hvalid, -, hlatch⟩ := synchronize_cases d s
  · rwa [hdrop]
  · rw [hlatch]
    exact {
      lksValid := hvalid
      published := by simp [h.published, eventOk_publishedOf d hvalid, -List.all_eq_true]
      pendingValid := h.pendingValid
      notReading := h.notReading
      indexOk := h.indexOk }

/-- PEND is 0 after the frame is sent, so the block the read leaves need not be valid. -/
theorem MachineInv.polled {s : State} (h : MachineInv s) (now : Time) : MachineInv (polled now s) where
  lksValid := h.lksValid
  published := by
    rw [Machine.polled, List.all_append, h.published, all_eventOk_map_tx, Bool.and_self]
  pendingValid := fun hpend => by cases hpend
  notReading := fun _ => rfl
  indexOk := readRun_index s.source

theorem MachineInv.fire {s : State} (h : MachineInv s) (now : Time) : MachineInv (fire now s) := by
  obtain hfire | ⟨d, hfire⟩ := fire_eq_polled_or now s
  · rw [hfire]
    exact h.polled now
  · rw [hfire]
    exact (h.polled now).synchronize d

/-- The invariant is kept by every effect, where no copy-out meets a pending command and no command a
read in progress. -/
theorem MachineInv.effect {i : Instr} {s t : State} (h : MachineInv s) (heffect : Effect i s t)
    (hcopyPend : isCopyOut i = true → s.pend = false)
    (hcommandPhase : isCommand i = true → s.phase ≠ .reading) : MachineInv t := by
  cases heffect with
  | transient r f p x hindex hphase =>
    refine ⟨h.lksValid, h.published, h.pendingValid, fun hreading => ?_, hindex h.indexOk⟩
    obtain rfl | rfl := hphase
    · exact h.notReading hreading
    · cases hreading
  | encode d p hvalid hpend =>
    refine ⟨h.lksValid, h.published, fun _ => ?_, fun hreading => ?_, h.indexOk⟩
    · rwa [decodeCfg_encodeCfg s.cfg hvalid]
    · obtain rfl | ⟨hcommand, -⟩ := hpend
      · exact h.notReading hreading
      · exact absurd hreading (hcommandPhase hcommand)
  | read blk r l p x hcopy hindex hphase =>
    have hpend := hcopyPend hcopy
    exact ⟨h.lksValid, h.published, fun hset => absurd hset (by simp [hpend]), fun _ => hpend,
      hindex h.indexOk⟩
  | sync d => exact h.synchronize d
  | fire now => exact h.fire now
  | reset =>
    exact ⟨resetHasInv.lksValid, h.published, fun hset => (by cases hset), fun _ => rfl, h.indexOk⟩

/-! ### What a step takes -/

/-- What is taken from `s`, and the state without it. -/
inductive Fetched (s : State) : Encoded → State → Prop where
  | rst (rest : List Stimulus) (hinbox : s.inbox = .rst :: rest) : Fetched s .rst { s with inbox := rest }
  | cmd (w : BitVec 11) (rest : List Stimulus) (hphase : s.phase = .idle)
      (hinbox : s.inbox = .cmd w :: rest) : Fetched s (.cmdw w) { s with inbox := rest }
  | tick (now : Time) (answers : List Answer) (rest : List Stimulus) (hphase : s.phase = .idle)
      (hinbox : s.inbox = .tick now answers :: rest) :
      Fetched s (.tick now) { s with inbox := rest, source := s.source.filter Option.isSome ++ answers }
  | answer (a : Answer) (rest : List Answer) (hphase : s.phase = .reading) :
      Fetched s (.rxbyte s.rx.state a) { s with source := rest }
  | frame (bytes : List Byte) (hphase : s.phase = .building bytes) :
      Fetched s (.frame50 bytes) { s with phase := .idle }

theorem fetched_of_fetch {s s1 : State} {e : Encoded} (h : fetch s = some (e, s1)) : Fetched s e s1 := by
  by_cases hrst : s.inbox.head? = some .rst
  · obtain ⟨rest, hinbox⟩ := List.head?_eq_some_iff.mp hrst
    rw [fetch_rst hinbox] at h
    cases h
    exact .rst rest hinbox
  cases hphase : s.phase with
  | idle =>
    cases hinbox : s.inbox with
    | nil =>
      rw [fetch_idle_empty hphase hinbox] at h
      cases h
    | cons x rest =>
      cases x with
      | cmd w =>
        rw [fetch_cmd hphase hinbox] at h
        cases h
        exact .cmd w rest hphase hinbox
      | tick now answers =>
        rw [fetch_tick hphase hinbox] at h
        cases h
        exact .tick now answers rest hphase hinbox
      | rst => exact absurd (by rw [hinbox]; rfl) hrst
  | reading =>
    cases hsource : s.source with
    | nil =>
      rw [fetch_no_answer hphase hrst hsource] at h
      cases h
      exact .answer none s.source hphase
    | cons a rest =>
      rw [fetch_answer hphase hrst hsource] at h
      cases h
      exact .answer a rest hphase
  | building bytes =>
    rw [fetch_frame hphase hrst] at h
    cases h
    exact .frame bytes hphase

/-- A step with a next state changed nothing, or ran what it took. -/
theorem step_next_cases {s t : State} (h : step s = .next t) :
    t = s ∨ ∃ e s1 i, Fetched s e s1 ∧ decode e = .ok i ∧ exec i s1 = .next t := by
  cases hfetch : fetch s with
  | none => exact .inl (Host.Outcome.next.inj ((step_of_fetch_none hfetch).symm.trans h)).symm
  | some taken =>
    obtain ⟨e, s1⟩ := taken
    cases hdecode : decode e with
    | error err =>
      rw [step_of_decode_error hfetch hdecode] at h
      cases h
    | ok i =>
      rw [step_of_decode hfetch hdecode] at h
      exact .inr ⟨e, s1, i, fetched_of_fetch hfetch, hdecode, h⟩

/-! ### What each format decodes to -/

theorem isCommand_decodeCmdw (w : BitVec 11) : isCommand (decodeCmdw w) = true := by
  unfold decodeCmdw
  split <;> rfl

theorem isCommand_decodeRxByte (st : RxState) (b : Byte) : isCommand (decodeRxByte st b) = false := by
  cases st with
  | waitSync1 => by_cases hb : b = Config.sync <;> simp [decodeRxByte, hb, isCommand]
  | waitSync2 => by_cases hb : b = Config.sync <;> simp [decodeRxByte, hb, isCommand]
  | readLength => rfl
  | readBody => rfl

theorem not_isCopyOut_of_isCommand {i : Instr} (hi : isCommand i = true) : ¬ isCopyOut i = true := by
  intro hcopy
  cases i with
  | rxRead => cases hi
  | rxBody b => cases hi
  | _ => cases hcopy

theorem decodeFrame_ok {bytes : List Byte} {i : Instr} (h : decodeFrame bytes = .ok i) :
    i = .frameSet ∨ i = .frameQuery := by
  by_cases hset : MatchesFrameRow bytes Config.cmdSet
  · exact .inl (Except.ok.inj (h.symm.trans (decodeFrame_set hset)))
  by_cases hquery : MatchesFrameRow bytes Config.cmdQuery
  · exact .inr (Except.ok.inj (h.symm.trans (decodeFrame_query hquery)))
  · obtain ⟨err, herr⟩ := decodeFrame_error hset hquery
    rw [herr] at h
    cases h

/-! ### The invariant under a step -/

/-- Taking a stimulus, an answer or a frame pattern keeps the invariant. -/
theorem MachineInv.fetched {s s1 : State} {e : Encoded} (h : MachineInv s) (hfetched : Fetched s e s1) :
    MachineInv s1 := by
  cases hfetched with
  | frame bytes =>
    exact ⟨h.lksValid, h.published, h.pendingValid, fun hidle => (by cases hidle), h.indexOk⟩
  | _ => exact ⟨h.lksValid, h.published, h.pendingValid, h.notReading, h.indexOk⟩

/-- A body byte is taken inside a read only, where PEND is 0. -/
theorem Fetched.pend_of_isCopyOut {s s1 : State} {e : Encoded} {i : Instr} (hfetched : Fetched s e s1)
    (hinv : MachineInv s) (hdecode : decode e = .ok i) (hi : isCopyOut i = true) : s1.pend = false := by
  cases hfetched with
  | rst => cases hdecode; cases hi
  | cmd w => cases hdecode; exact absurd hi (not_isCopyOut_of_isCommand (isCommand_decodeCmdw w))
  | tick => cases hdecode; cases hi
  | answer a rest hphase => exact hinv.notReading hphase
  | frame bytes => obtain rfl | rfl := decodeFrame_ok hdecode <;> cases hi

/-- A command is taken at level 1 only. -/
theorem Fetched.phase_of_isCommand {s s1 : State} {e : Encoded} {i : Instr} (hfetched : Fetched s e s1)
    (hdecode : decode e = .ok i) (hi : isCommand i = true) : s1.phase ≠ .reading := by
  cases hfetched with
  | rst => cases hdecode; cases hi
  | cmd w rest hphase => simp [hphase]
  | tick => cases hdecode; cases hi
  | answer a =>
    cases a with
    | none => cases hdecode; cases hi
    | some b => cases hdecode; exact absurd hi (by simp [isCommand_decodeRxByte])
  | frame bytes => simp

/-! ### The statements about steps -/

/-- Settles O48: what a step takes keeps the invariant, and so does the effect of the operation it runs. -/
theorem stepKeepsInv : Obligations.StepKeepsInv := by
  intro s t hinv h
  obtain rfl | ⟨e, s1, i, hfetched, hdecode, hexec⟩ := step_next_cases h
  · exact hinv
  · exact (hinv.fetched hfetched).effect (effect_of_exec hexec)
      (hfetched.pend_of_isCopyOut hinv hdecode) (hfetched.phase_of_isCommand hdecode)

/-- Settles O50: the frame carries CFG, which the invariant keeps valid while PEND is 1. -/
theorem setFrameCarriesAValidState : Obligations.SetFrameCarriesAValidState := by
  intro now s hinv hpend
  obtain ⟨-, -, -, -, -, -, -, hcmd⟩ := buildFrame_header Config.postfixBytes s.cfg true
  refine ⟨fire now s, exec_pollFire now s, ?command, fire_sentBytes now s, ?valid⟩
  case command =>
    rw [fire_txf, hpend, hcmd]
    rfl
  case valid =>
    rw [fire_txf, extractAfterBuild]
    exact hinv.pendingValid hpend

/-- An operation taken at level 1 runs to its end, which leaves the waiting stimuli and level 1 as they
were. -/
theorem step_completes {s s1 : State} {e : Encoded} {i : Instr} (hfetch : fetch s = some (e, s1))
    (hdecode : decode e = .ok i) (henc : ∀ d, i ≠ .cfgEnc d) (hphase : s1.phase = .idle) :
    ∃ t, step s = .next t ∧ t.phase = .idle ∧ t.inbox = s1.inbox := by
  obtain ⟨t, ht, heffect⟩ := exec_effect i s1 fun d hd => absurd hd (henc d)
  refine ⟨t, (step_of_decode hfetch hdecode).trans ht, ?_, heffect.inbox⟩
  obtain hsame | hidle := heffect.phase
  · rw [hsame, hphase]
  · exact hidle

/-- Settles O43, by the stimulus that waits first. -/
theorem stepTakesOneStimulusWhole : Obligations.StepTakesOneStimulusWhole := by
  intro s hphase
  cases hinbox : s.inbox with
  | nil => exact ⟨s, step_of_fetch_none (fetch_idle_empty hphase hinbox), hphase, hinbox⟩
  | cons x rest =>
    cases x with
    | cmd w =>
      have henc : ∀ d, decodeCmdw w ≠ .cfgEnc d := by
        intro d hd
        have hcommand := isCommand_decodeCmdw w
        rw [hd] at hcommand
        cases hcommand
      exact step_completes (fetch_cmd hphase hinbox) rfl henc hphase
    | tick now answers => exact step_completes (fetch_tick hphase hinbox) rfl (by simp) hphase
    | rst => exact step_completes (fetch_rst hinbox) rfl (by simp) hphase

end Sys2Proof.Machine
end
